-- ==== Sys2Proof/Word.lean ====
section
/-!
DEFINITION. The widths of the DG-16: ring characters, data words, store words, straps.
-/

namespace Sys2Proof

/-- A ring character's eight data bits (R172). -/
abbrev Byte := BitVec 8

/-- Sixteen data bits: a store word's data, a service frame's data word, a course tag (R19, R75). -/
abbrev Word := BitVec 16

/-- A stored word: bits 15..0 the data, bits 16..21 the check bits c0..c5 (R20). -/
abbrev Stored := BitVec 22

/-- A local bar, 0..15. -/
abbrev BarIx := Fin 16

/-- A drive class, 0..3. -/
abbrev ClassIx := Fin 4

end Sys2Proof
end

