-- ==== Sys2Proof/Syntax.lean ====
section
/-!
DEFINITION. The commands of the node, one constructor per row of spec/opcode_table.json, and the frames they carry.
A command is one whole step of the part (95_what_each_step_holds.md).
-/

namespace Sys2Proof

/-- The two row banks (R37). -/
inductive Bank where
  | a
  | b
deriving DecidableEq, Repr

/-- The four window parameters (R120). -/
inductive WindowParam where
  | us
  | ul
  | os
  | ol
deriving DecidableEq, Repr

/-- One override of a course frame (R43): a global bar number, a lead and a trail, each one byte. -/
structure Override where
  bar   : Byte
  lead  : Byte
  trail : Byte
deriving DecidableEq, Repr

/-- The six bytes of a status slot (12.1): verdict, node state, pending count, attention flags, node ceiling. -/
structure Slot where
  verdict   : Byte
  nodeState : Byte
  pending   : Byte
  attention : Byte
  ceilingHi : Byte
  ceilingLo : Byte
deriving DecidableEq, Repr

/-- A course frame's content between its kind and its CRC (R173, 12.1). The override count is the list's length. -/
structure CourseFrame where
  tag       : Word
  row       : Word
  bank      : Byte
  overrides : List Override
  slots     : Vector Slot 8
deriving DecidableEq, Repr

/-- The six bytes of a service frame's argument block (12.2). -/
structure Args where
  a0 : Byte
  a1 : Byte
  a2 : Byte
  a3 : Byte
  a4 : Byte
  a5 : Byte
deriving DecidableEq, Repr

/-- What a service request addressed to this node carries beside what its operation reads: the sequence, the argument
bytes (those the operation reads are replaced by its operands), the data words and the result slot, as received. -/
structure Envelope where
  seq   : Byte
  spare : Args
  data  : List Word
  slot  : Byte
deriving DecidableEq, Repr

/-- A whole service frame between its kind and its CRC (R173, 12.2); `reply` says whether its kind is SERVICE_REPLY. -/
structure ServiceFrame where
  reply : Bool
  dest  : Byte
  seq   : Byte
  op    : Byte
  args  : Args
  data  : List Word
  slot  : Byte
deriving DecidableEq, Repr

/-- A character as received (R172): its value and whether its stop bit was sampled at mark. -/
structure RxChar where
  value  : Byte
  stopOk : Bool
deriving DecidableEq, Repr

/-- A service operation as its argument bytes give it (12.2, 12.5): what a clean SERVICE_REQ addressed to this node asks
for. The SET_PARAM of each parameter, and each way of naming no operation or no parameter, is a case of its own. -/
inductive ServiceOp where
  | load (start : BitVec 24) (count : Byte)
  | read (start : BitVec 24) (count : Byte)
  | getParam (identity index : Byte)
  | setRowCount (bank : Bank) (value : Word)
  | setMargin (value : Word)
  | setStandstillTimeout (value : Word)
  | setWindow (param : WindowParam) (value : Word)
  | setGuardEnable (value : Word)
  | setDiagnosticCheckMode (value : Word)
  | setDiagnosticCheckValue (value : Word)
  | setStepsPerNeedle (cls : Byte) (value : Word)
  | setRampLength (cls : Byte) (value : Word)
  | setMode (bar : Byte) (value : Word)
  | setClass (bar : Byte) (value : Word)
  | setLapSet (bar : Byte) (value : Word)
  | setTravelLimit (bar : Byte) (value : Word)
  | setTrim (bar : Byte) (value : Word)
  | setHomePosition (bar : Byte) (value : Word)
  | setHomePolarity (bar : Byte) (value : Word)
  | unknownParameter (identity index : Byte) (value : Word)
  | commitClass (cls : Byte)
  | arm (firstTag : Word)
  | disarm
  | resume
  | restart
  | jog (bar : Byte) (steps : Word)
  | reference (bar : Byte)
  | getStatus (part bar : Byte)
  | getFaults
  | clearFault (target bar : Byte)
  | unknownOp (op : Byte)
deriving DecidableEq, Repr

/-- A command of the node. Levels sampled from pins stand as operands; `homes` holds the levels of HOME0..HOME15, bit n
the level of bar n. -/
inductive Instr where
  -- resets
  | powerOn (straps : BitVec 3) (a b : Bool) (homes : BitVec 16)
  | pinReset
  | resetEnd (straps : BitVec 3) (a b : Bool)
  -- the shaft
  | increment (a b index : Bool)
  | indexMissing
  | standstillExpiry
  -- the store, the classes, the expansion
  | storeClearDone
  | wordAccessComplete
  | commitSwap
  | expansionComplete
  -- the bars
  | stepPulse (bar : BarIx)
  | stepPulseEnd (bar : BarIx)
  | moveComplete (bar : BarIx)
  | searchSample (bar : BarIx) (homes : BitVec 16)
  -- the ring
  | courseFrame (frame : CourseFrame)
  | corruptFrame (chars : List RxChar)
  | serviceFramePass (frame : ServiceFrame)
  | ringBreak
  | ringSilence
  | deferredServiceOp (homes : BitVec 16)
  -- service operations addressed to this node
  | load (env : Envelope) (start : BitVec 24) (count : Byte)
  | read (env : Envelope) (start : BitVec 24) (count : Byte)
  | getParam (env : Envelope) (identity index : Byte)
  | setRowCount (env : Envelope) (bank : Bank) (value : Word)
  | setMargin (env : Envelope) (value : Word)
  | setStandstillTimeout (env : Envelope) (value : Word)
  | setWindow (env : Envelope) (param : WindowParam) (value : Word)
  | setGuardEnable (env : Envelope) (value : Word)
  | setDiagnosticCheckMode (env : Envelope) (value : Word)
  | setDiagnosticCheckValue (env : Envelope) (value : Word)
  | setStepsPerNeedle (env : Envelope) (cls : Byte) (value : Word)
  | setRampLength (env : Envelope) (cls : Byte) (value : Word)
  | setMode (env : Envelope) (bar : Byte) (value : Word)
  | setClass (env : Envelope) (bar : Byte) (value : Word)
  | setLapSet (env : Envelope) (bar : Byte) (value : Word)
  | setTravelLimit (env : Envelope) (bar : Byte) (value : Word)
  | setTrim (env : Envelope) (bar : Byte) (value : Word)
  | setHomePosition (env : Envelope) (bar : Byte) (value : Word)
  | setHomePolarity (env : Envelope) (bar : Byte) (value : Word)
  | commitClass (env : Envelope) (cls : Byte)
  | arm (env : Envelope) (firstTag : Word)
  | disarm (env : Envelope)
  | resume (env : Envelope)
  | restart (env : Envelope)
  | jog (env : Envelope) (bar : Byte) (steps : Word)
  | reference (env : Envelope) (bar : Byte) (homes : BitVec 16)
  | getStatus (env : Envelope) (part bar : Byte) (homes : BitVec 16)
  | getFaults (env : Envelope)
  | clearFault (env : Envelope) (target bar : Byte)
  | unknownOp (env : Envelope) (op : Byte)
  | unknownParameter (env : Envelope) (identity index : Byte) (value : Word)
deriving DecidableEq, Repr

end Sys2Proof
end

