-- ==== Sys2Proof/Decode.lean ====
section
/-!
DEFINITION. The command that a word spells by the table's bits. No row of spec/opcode_table.json has bits (every row's
"fields" is empty and no row has a pattern), so no word spells a command.
-/

namespace Sys2Proof

/-- The command spelled by a word of the opcode table: none, since the table gives no row any bits. -/
def decodeTableWord (_nbits _w : Nat) : Option Instr := none

end Sys2Proof
end

