-- ==== Sys2Proof/Config.lean ====
section
/-!
DEFINITION. What the spec leaves open, as constants without a body: no proof can see their values, so a claim about the
model holds for every value of them. Each is named in an entry of notes/assumptions.
The first argument of an order is the value of State.choices when the order is asked for; each use takes a fresh one.
-/

namespace Sys2Proof.Config

/-- FREE VALUE (entry 4, R130): does the unit take the k-th window crossing of this increment before the node
controller takes a HOLD requested by a guard of the same increment? -/
opaque beforeHold : Nat → Nat → Bool

/-- FREE VALUE (entry 4, R86): does the queue take the boundary of this increment before the node controller takes a
HOLD requested by a guard of the same increment? -/
opaque holdAfterBoundary : Nat → Bool

/-- FREE VALUE (entry 5, R138, R147): where CATCHUP_DISTURBED stands among the other reports of its increment;
0 first, 1 after an index slip, anything else after the boundary. -/
opaque disturbWhen : Nat → Nat

/-- FREE VALUE (entry 6, R17): is the index capture of an increment taken before the due check of its boundary? -/
opaque captureFirst : Nat → Bool

/-- FREE VALUE (entry 3): the rank of the k-th of the events that fall due at one timebase count. -/
opaque dueRank : Nat → Nat → Nat

/-- FREE VALUE (entry 13, R179): the CRC characters of a reply sent with mark 255 because the request's CRC was bad. -/
opaque markedReplyCrc : List Byte → Word

/-- FREE VALUE (entry 14, R176): the last character sent of a frame whose kind is unknown, from the characters received. -/
opaque unknownKindLast : List Byte → Byte

end Sys2Proof.Config
end

