-- ==== Sys2Proof/Machine/Frames.lean ====
section
/-!
DEFINITION. Ring frames as characters: byte order, the CRC, the layouts of course and service frames, what a service
request's bytes ask for, and how the ring port judges the characters of one frame (R172 to R174, R185, R186, 12.1, 12.2).
-/

namespace Sys2Proof.Machine

/-- The high byte of a two-byte field, sent first (R185). -/
def hiByte (w : Word) : Byte := w.extractLsb' 8 8

/-- The low byte of a two-byte field. -/
def loByte (w : Word) : Byte := w.extractLsb' 0 8

/-- A two-byte field from its characters, high byte first (R185). -/
def wordOf (hi lo : Byte) : Word := hi ++ lo

/-- A three-byte field from its characters, high byte first (R185, R186). -/
def word24Of (hi mid lo : Byte) : BitVec 24 := (hi ++ mid) ++ lo

/-- The start character (R173). -/
def startChar : Byte := 165

/-- The mark of a clean frame and of a corrupt one (R174). -/
def markClean : Byte := 0
def markCorrupt : Byte := 255

/-- Kind values (12.1). -/
def kindCourse : Byte := 1
def kindRequest : Byte := 2
def kindReply : Byte := 3

/-! ### The CRC (R174) -/

/-- One bit entering the CRC register: shift towards the high end, and combine 4129 when the bit shifted out differs
from the entering data bit. -/
def crcBit (reg : Word) (bit : Bool) : Word :=
  if reg.getLsbD 15 != bit then (reg <<< 1) ^^^ 4129 else reg <<< 1

/-- One character entering the CRC register, most significant bit first. -/
def crcChar (reg : Word) (c : Byte) : Word :=
  [7, 6, 5, 4, 3, 2, 1, 0].foldl (fun r i => crcBit r (c.getLsbD i)) reg

/-- The CRC of the characters from the kind to the one before the CRC; the register starts at 65535 (R174). -/
def crc (chars : List Byte) : Word :=
  chars.foldl crcChar 65535

/-- A whole frame from the characters between its start and its CRC: the start, the characters, the CRC high byte first,
and the mark (R173, R174). -/
def frameOf (body : List Byte) (check : Word) (mark : Byte) : List Byte :=
  startChar :: body ++ [hiByte check, loByte check, mark]

/-- A frame sent clean: CRC computed over what is sent, mark 0 (R176). -/
def cleanFrameOf (body : List Byte) : List Byte :=
  frameOf body (crc body) markClean

/-! ### Course frames (12.1) -/

def overrideBytes (o : Override) : List Byte := [o.bar, o.lead, o.trail]

def slotBytes (x : Slot) : List Byte :=
  [x.verdict, x.nodeState, x.pending, x.attention, x.ceilingHi, x.ceilingLo]

/-- A course frame's characters from the kind to the last status slot (R173, 12.1). -/
def courseBody (f : CourseFrame) : List Byte :=
  [kindCourse, hiByte f.tag, loByte f.tag, hiByte f.row, loByte f.row, f.bank, BitVec.ofNat 8 f.overrides.length]
    ++ f.overrides.flatMap overrideBytes
    ++ f.slots.toList.flatMap slotBytes

/-- Overrides from their characters, three each. -/
def parseOverrides : Nat → List Byte → List Override
  | 0, _ => []
  | n + 1, b :: l :: t :: rest => ⟨b, l, t⟩ :: parseOverrides n rest
  | _ + 1, _ => []

/-- The k-th status slot from the slots' characters, six each. -/
def parseSlot (cs : List Byte) (k : Nat) : Slot :=
  let x := fun j => cs.getD (6 * k + j) 0
  ⟨x 0, x 1, x 2, x 3, x 4, x 5⟩

/-- A course frame from the characters between its kind and its CRC. -/
def parseCourse (cs : List Byte) : CourseFrame :=
  let x := fun j => cs.getD j 0
  let n := (x 6).toNat
  { tag := wordOf (x 1) (x 2)
    row := wordOf (x 3) (x 4)
    bank := x 5
    overrides := parseOverrides n (cs.drop 7)
    slots := Vector.ofFn fun k => parseSlot (cs.drop (7 + 3 * n)) k.val }

/-! ### Service frames (12.2) -/

def argBytes (a : Args) : List Byte := [a.a0, a.a1, a.a2, a.a3, a.a4, a.a5]

def dataBytes (ws : List Word) : List Byte := ws.flatMap fun w => [hiByte w, loByte w]

/-- A service frame's characters from the kind to the result slot (R173, 12.2). -/
def serviceBody (f : ServiceFrame) : List Byte :=
  [if f.reply then kindReply else kindRequest, f.dest, f.seq, f.op] ++ argBytes f.args
    ++ [BitVec.ofNat 8 f.data.length] ++ dataBytes f.data ++ [f.slot]

/-- Data words from their characters, two each. -/
def parseWords : Nat → List Byte → List Word
  | 0, _ => []
  | n + 1, h :: l :: rest => wordOf h l :: parseWords n rest
  | _ + 1, _ => []

/-- A service frame from the characters between its start and its CRC. -/
def parseService (cs : List Byte) : ServiceFrame :=
  let x := fun j => cs.getD j 0
  let d := (x 10).toNat
  { reply := x 0 == kindReply
    dest := x 1
    seq := x 2
    op := x 3
    args := ⟨x 4, x 5, x 6, x 7, x 8, x 9⟩
    data := parseWords d (cs.drop 11)
    slot := x (11 + 2 * d) }

/-! ### What a request asks for (12.2, 12.5, R181, R186) -/

/-- The operation values of 12.2. -/
def opByte : ServiceOp → Byte
  | .load .. => 1
  | .read .. => 2
  | .setRowCount .. | .setMargin .. | .setStandstillTimeout .. | .setWindow .. | .setGuardEnable ..
  | .setDiagnosticCheckMode .. | .setDiagnosticCheckValue .. | .setStepsPerNeedle .. | .setRampLength ..
  | .setMode .. | .setClass .. | .setLapSet .. | .setTravelLimit .. | .setTrim .. | .setHomePosition ..
  | .setHomePolarity .. | .unknownParameter .. => 3
  | .getParam .. => 4
  | .commitClass .. => 5
  | .arm .. => 6
  | .disarm => 7
  | .resume => 8
  | .restart => 9
  | .jog .. => 10
  | .reference .. => 11
  | .getStatus .. => 12
  | .getFaults => 13
  | .clearFault .. => 14
  | .unknownOp op => op

/-- The identity of a window parameter (12.5). -/
def windowIdentity : WindowParam → Byte
  | .us => 5
  | .ul => 6
  | .os => 7
  | .ol => 8

/-- Argument bytes of a SET_PARAM: the identity in a0 and the value in a2–a3; the index is not read (R181). -/
def nodeParamArgs (identity : Byte) (value : Word) (spare : Args) : Args :=
  { spare with a0 := identity, a2 := hiByte value, a3 := loByte value }

/-- Argument bytes of a SET_PARAM of a per-class or per-bar parameter: identity, index and value (R181). -/
def indexedParamArgs (identity index : Byte) (value : Word) (spare : Args) : Args :=
  { spare with a0 := identity, a1 := index, a2 := hiByte value, a3 := loByte value }

/-- Argument bytes of a LOAD or READ: the start address in a0–a2 and the word count in a3 (12.2). -/
def rangeArgs (start : BitVec 24) (count : Byte) (spare : Args) : Args :=
  { spare with a0 := start.extractLsb' 16 8, a1 := start.extractLsb' 8 8, a2 := start.extractLsb' 0 8, a3 := count }

/-- The argument block of a request: the bytes its operation reads, over the spare bytes (12.2, 12.5). -/
def argsOf (op : ServiceOp) (spare : Args) : Args :=
  match op with
  | .load start count => rangeArgs start count spare
  | .read start count => rangeArgs start count spare
  | .getParam identity index => { spare with a0 := identity, a1 := index }
  | .setRowCount .a v => nodeParamArgs 1 v spare
  | .setRowCount .b v => nodeParamArgs 2 v spare
  | .setMargin v => nodeParamArgs 3 v spare
  | .setStandstillTimeout v => nodeParamArgs 4 v spare
  | .setWindow w v => nodeParamArgs (windowIdentity w) v spare
  | .setGuardEnable v => nodeParamArgs 9 v spare
  | .setDiagnosticCheckMode v => nodeParamArgs 10 v spare
  | .setDiagnosticCheckValue v => nodeParamArgs 11 v spare
  | .setStepsPerNeedle c v => indexedParamArgs 16 c v spare
  | .setRampLength c v => indexedParamArgs 17 c v spare
  | .setMode b v => indexedParamArgs 32 b v spare
  | .setClass b v => indexedParamArgs 33 b v spare
  | .setLapSet b v => indexedParamArgs 34 b v spare
  | .setTravelLimit b v => indexedParamArgs 35 b v spare
  | .setTrim b v => indexedParamArgs 36 b v spare
  | .setHomePosition b v => indexedParamArgs 37 b v spare
  | .setHomePolarity b v => indexedParamArgs 38 b v spare
  | .unknownParameter identity index v => indexedParamArgs identity index v spare
  | .commitClass c => { spare with a0 := c }
  | .arm tag => { spare with a0 := hiByte tag, a1 := loByte tag }
  | .jog b n => { spare with a0 := b, a1 := hiByte n, a2 := loByte n }
  | .reference b => { spare with a0 := b }
  | .getStatus p b => { spare with a0 := p, a1 := b }
  | .clearFault t b => { spare with a0 := t, a1 := b }
  | .disarm | .resume | .restart | .getFaults | .unknownOp _ => spare

/-- What a SET_PARAM's argument block asks for (12.5). -/
def decodeSetParam (a : Args) : ServiceOp :=
  let v := wordOf a.a2 a.a3
  if a.a0 = 1 then .setRowCount .a v
  else if a.a0 = 2 then .setRowCount .b v
  else if a.a0 = 3 then .setMargin v
  else if a.a0 = 4 then .setStandstillTimeout v
  else if a.a0 = 5 then .setWindow .us v
  else if a.a0 = 6 then .setWindow .ul v
  else if a.a0 = 7 then .setWindow .os v
  else if a.a0 = 8 then .setWindow .ol v
  else if a.a0 = 9 then .setGuardEnable v
  else if a.a0 = 10 then .setDiagnosticCheckMode v
  else if a.a0 = 11 then .setDiagnosticCheckValue v
  else if a.a0 = 16 then .setStepsPerNeedle a.a1 v
  else if a.a0 = 17 then .setRampLength a.a1 v
  else if a.a0 = 32 then .setMode a.a1 v
  else if a.a0 = 33 then .setClass a.a1 v
  else if a.a0 = 34 then .setLapSet a.a1 v
  else if a.a0 = 35 then .setTravelLimit a.a1 v
  else if a.a0 = 36 then .setTrim a.a1 v
  else if a.a0 = 37 then .setHomePosition a.a1 v
  else if a.a0 = 38 then .setHomePolarity a.a1 v
  else .unknownParameter a.a0 a.a1 v

/-- What a request's op and argument block ask for (12.2). -/
def decodeOp (op : Byte) (a : Args) : ServiceOp :=
  if op = 1 then .load (word24Of a.a0 a.a1 a.a2) a.a3
  else if op = 2 then .read (word24Of a.a0 a.a1 a.a2) a.a3
  else if op = 3 then decodeSetParam a
  else if op = 4 then .getParam a.a0 a.a1
  else if op = 5 then .commitClass a.a0
  else if op = 6 then .arm (wordOf a.a0 a.a1)
  else if op = 7 then .disarm
  else if op = 8 then .resume
  else if op = 9 then .restart
  else if op = 10 then .jog a.a0 (wordOf a.a1 a.a2)
  else if op = 11 then .reference a.a0
  else if op = 12 then .getStatus a.a0 a.a1
  else if op = 13 then .getFaults
  else if op = 14 then .clearFault a.a0 a.a1
  else .unknownOp op

/-- The parameter identities of 12.5. -/
def knownIdentity (identity : Byte) : Bool :=
  let n := identity.toNat
  (1 ≤ n && n ≤ 11) || n == 16 || n == 17 || (32 ≤ n && n ≤ 38)

/-- The SERVICE_REQ that carries an operation to the node of address `dest`. -/
def requestFrame (dest : Byte) (op : ServiceOp) (env : Envelope) : ServiceFrame :=
  { reply := false, dest := dest, seq := env.seq, op := opByte op, args := argsOf op env.spare, data := env.data,
    slot := env.slot }

/-- The envelope of a received service frame. -/
def envelopeOf (f : ServiceFrame) : Envelope :=
  { seq := f.seq, spare := f.args, data := f.data, slot := f.slot }

/-! ### Judging the characters of one frame (R173, R174) -/

/-- The computed length of a frame from its characters (R173), none while the count has not been received or when the
kind names no layout. -/
def computedLength (cs : List Byte) : Option Nat :=
  match cs[1]? with
  | none => none
  | some kind =>
    if kind = kindCourse then cs[7]?.map fun n => 59 + 3 * n.toNat
    else if kind = kindRequest ∨ kind = kindReply then cs[11]?.map fun d => 16 + 2 * d.toNat
    else none

/-- Does a kind byte name one of the three kinds? -/
def kindKnown (kind : Byte) : Bool := kind == kindCourse || kind == kindRequest || kind == kindReply

/-- How the ring port judges the characters of one frame, from the start character to the idle that ends it. -/
inductive Judgement where
  /-- the first character begins no frame: the characters are discarded (R173) -/
  | noFrame
  /-- the kind is none of the three: a framing error with no computed length (R173) -/
  | unknownKind
  /-- the line fell idle before the computed length (R173) -/
  | short
  /-- a character arrived after the computed length (R173) -/
  | long (length : Nat)
  /-- the computed length was received, with a character error or a data count above 32 (R173) -/
  | broken
  /-- no framing error, but the mark arrived other than 0 (R174) -/
  | marked
  /-- no framing error and mark 0, but the CRC does not match (R174) -/
  | badCrc
  | cleanCourse (f : CourseFrame)
  | cleanService (f : ServiceFrame)
deriving DecidableEq, Repr

/-- The characters from the kind to the one before the CRC of a frame received to its computed length. -/
def bodyOf (cs : List Byte) : List Byte := (cs.drop 1).take (cs.length - 4)

/-- The judgement of a frame received to its computed length without a character error (R174). -/
def judgeWhole (cs : List Byte) : Judgement :=
  let body := bodyOf cs
  let check := cs.drop (cs.length - 3)
  if cs.getD 1 0 ≠ kindCourse ∧ 32 < (cs.getD 11 0).toNat then .broken
  else if check.getD 2 0 ≠ markClean then .marked
  else if wordOf (check.getD 0 0) (check.getD 1 0) ≠ crc body then .badCrc
  else if cs.getD 1 0 = kindCourse then .cleanCourse (parseCourse body)
  else .cleanService (parseService body)

/-- The judgement of received characters (R173, R174). The idle before the start character is taken as given. -/
def judge (chars : List RxChar) : Judgement :=
  match chars with
  | [] => .noFrame
  | first :: _ =>
    let cs := chars.map RxChar.value
    if first.value ≠ startChar ∨ first.stopOk = false then .noFrame
    else
      match cs[1]? with
      | none => .short
      | some kind =>
        if kindKnown kind = false then .unknownKind
        else
          match computedLength cs with
          | none => .short
          | some n =>
            if cs.length < n then .short
            else if n < cs.length then .long n
            else if chars.all RxChar.stopOk then judgeWhole cs
            else .broken

/-- Characters received without a character error. -/
def received (cs : List Byte) : List RxChar := cs.map fun c => ⟨c, true⟩

/-- The same characters with the last replaced, as a mark is (R176). -/
def withLast (cs : List Byte) (last : Byte) : List Byte := cs.dropLast ++ [last]

end Sys2Proof.Machine
end

