-- ==== Sys2Proof/Machine/State.lean ====
section
/-!
DEFINITION. The state of the node, one record per block of the manual, as plain data; the reasons a step can stop; the
state right after power-on.
-/

namespace Sys2Proof.Machine

/-! ### Shaft tracker (chapter 1) -/

/-- The direction of rotation (R13). -/
inductive Direction where
  | forward
  | reverse
  | stopped
deriving DecidableEq, Repr

/-- The shaft tracker's state (chapter 1, state table; R18). -/
structure Tracker where
  /-- the angle counter, 0..1439 (R2) -/
  angle : Nat
  /-- has the counter been aligned to the index (R11)? -/
  angleValid : Bool
  dir : Direction
  /-- window crossings still to be withheld (R10) -/
  recross : Nat
  /-- the sense of the last correction, which R10 withholds crossings in; true is forward -/
  recrossForward : Bool
  /-- increments since index (R12) -/
  sinceIndex : Nat
  /-- the standstill one-shot: none when idle, else the timebase counts to its expiry (R14) -/
  oneShot : Option Nat
  /-- the standstill timeout in units of 10 ms (R15) -/
  timeout : Nat
  /-- the period counter (R16) -/
  period : Nat
  spoiled : Bool
  /-- T_meas (R17) -/
  tMeas : Nat
  /-- the quadrature reference, the last decoded pair of levels (R1) -/
  levelA : Bool
  levelB : Bool
  /-- the index input at the previous increment (R6) -/
  indexWas : Bool
deriving DecidableEq, Repr

/-! ### Pattern store (chapter 2) -/

/-- The word array: (address, word) pairs with rising addresses; an unlisted address reads as the all-zero word. -/
abbrev Memory := List (Nat × Stored)

inductive StoreState where
  | clearing
  | ready
deriving DecidableEq, Repr

/-- The arbiter's three clients (R23). -/
inductive Client where
  | expander
  | service
  | engine
deriving DecidableEq, Repr

/-- A word access in progress (R23). A write carries the 22 bits it writes; `orphan` marks an access whose client a pin
reset has ended (R36). -/
structure Access where
  client : Client
  addr   : Nat
  write  : Option Stored
  orphan : Bool
deriving DecidableEq, Repr

/-- The access that met a check error (R27). -/
inductive CaptureKind where
  | expansion
  | read
  | commit
deriving DecidableEq, Repr

inductive Severity where
  | correctable
  | uncorrectable
deriving DecidableEq, Repr

/-- One ECC capture (R27). -/
structure Capture where
  kind     : CaptureKind
  addr     : Nat
  syndrome : BitVec 5
  parity   : Bool
  severity : Severity
  repeated : Bool
deriving DecidableEq, Repr

/-- How the reply of a request is to be sent (R179). -/
inductive ReplyForm where
  /-- as a reply, CRC recomputed, mark 0 -/
  | clean
  /-- as a reply with mark 255: the request's CRC was bad -/
  | marked
  /-- as these characters: the request arrived marked or as a framing error -/
  | fixed (chars : List Byte)
deriving DecidableEq, Repr

/-- A READ whose words are being read (R26, R35). -/
structure ReadJob where
  start    : Nat
  count    : Nat
  words    : List Word
  /-- the index of the first uncorrectable word -/
  firstBad : Option Nat
  op       : ServiceOp
  env      : Envelope
  ticket   : Nat
  form     : ReplyForm
deriving DecidableEq, Repr

/-- The store, its arbiter and its records (chapter 2, state table). -/
structure Store where
  words : Memory
  state : StoreState
  /-- word accesses still to come of the power-on clear (R31) -/
  clearLeft : Nat
  access : Option Access
  waitExpander : Bool
  waitService : Bool
  waitEngine : Bool
  capture : Option Capture
  /-- the corrected count, 0..255 (R28) -/
  corrected : Nat
  diagMode : Bool
  /-- the diagnostic check value; bit i is stored as ci (R30) -/
  diagValue : BitVec 6
  /-- the words of a LOAD not yet written, with their addresses (R33) -/
  staging : List (Nat × Word)
  read : Option ReadJob
deriving DecidableEq, Repr

/-! ### Course records and the expander (chapter 3) -/

/-- Where a bar plan's positions came from (R45). -/
inductive Source where
  | table
  | override
  | stand
  | excluded
deriving DecidableEq, Repr

/-- A bar plan (R45). The positions and distances of an EXCLUDED plan are absent: held as 0 and never read. -/
structure BarPlan where
  source   : Source
  lead     : Nat
  trail    : Nat
  clamped  : Bool
  underlap : Nat
  overlap  : Nat
deriving DecidableEq, Repr

/-- A course record (R44). -/
structure CourseRecord where
  tag       : Word
  row       : Word
  bank      : Bank
  corrected : Bool
  plans     : Vector BarPlan 16
  /-- T_min, timebase counts (R101) -/
  tMin      : Nat
  /-- the speed ceiling, cpm (R102) -/
  ceiling   : Nat
deriving DecidableEq, Repr

/-- One store fetch of an expansion (R48). -/
inductive Fetch where
  | rowWord (k : Fin 8)
  | lapEntry (bar : BarIx)
deriving DecidableEq, Repr

/-- An expansion in progress: what R46 reads at its beginning, and the candidate so far. -/
structure Expansion where
  frame     : CourseFrame
  bank      : Bank
  ticket    : Nat
  /-- the address of row word 0 of the reduced row (R37) -/
  rowBase   : Nat
  lapSets   : Vector (Fin 4) 16
  limits    : Vector Nat 16
  plans     : Vector BarPlan 16
  /-- the fetches not yet completed, in order (R48); the first is presented -/
  todo      : List Fetch
  /-- the row word last delivered -/
  rowWord   : Word
  corrected : Bool
  /-- did a fetch have an uncorrectable outcome (R52)? -/
  ecc       : Bool
deriving DecidableEq, Repr

structure Expander where
  rowCountA : Nat
  rowCountB : Nat
  job       : Option Expansion
deriving DecidableEq, Repr

/-! ### Drive classes (chapter 4) -/

inductive ClassState where
  | invalid
  | computing
  | valid
  | stale
deriving DecidableEq, Repr

inductive CommitOutcome where
  | none
  | done
  | clamped
  | eccFail
deriving DecidableEq, Repr

/-- A drive class (chapter 4, state table). Periods and move times are in timebase counts. -/
structure DriveClass where
  spn     : Nat
  length  : Nat
  state   : ClassState
  /-- the committed ramp p1..pL (R59, R67) -/
  ramp    : Option (List Nat)
  /-- the active move-time table MT[0]..MT[63] (R63) -/
  table   : Option (List Nat)
  outcome : CommitOutcome
deriving DecidableEq, Repr

inductive CommitStage where
  | fetching
  /-- timebase counts of the computation stage passed (R67) -/
  | computing (elapsed : Nat)
deriving DecidableEq, Repr

/-- The commit in flight (R65 to R67). -/
structure Commit where
  cls     : ClassIx
  prior   : ClassState
  spn     : Nat
  length  : Nat
  /-- the entries fetched so far, clamped (R59) -/
  fetched : List Nat
  /-- has an entry been raised (R59)? -/
  raised  : Bool
  stage   : CommitStage
  /-- the shadow table's entries so far -/
  shadow  : List Nat
deriving DecidableEq, Repr

structure Engine where
  classes : Vector DriveClass 4
  commit  : Option Commit
deriving DecidableEq, Repr

/-! ### Course queue (chapters 5 and 6) -/

/-- The last due check (R107). -/
structure DueCheck where
  tag    : Word
  tMeas  : Nat
  tMin   : Nat
  margin : Nat
  pass   : Bool
deriving DecidableEq, Repr

structure Queue where
  /-- oldest first (R74) -/
  history  : List CourseRecord
  current  : Option CourseRecord
  /-- head first (R74) -/
  pending  : List CourseRecord
  /-- the next expected tag (R75) -/
  expected : Option Word
  dueCheck : Option DueCheck
deriving DecidableEq, Repr

/-! ### Bar motion units (chapters 7 and 9) -/

inductive Mode where
  | parked
  | jog
  | motion
deriving DecidableEq, Repr

inductive Polarity where
  | activeLow
  | activeHigh
deriving DecidableEq, Repr

inductive Leg where
  | backOff
  | seek
deriving DecidableEq, Repr

/-- A move in flight (chapter 7, state table; R114, R115). -/
structure Move where
  up      : Bool
  steps   : Nat
  emitted : Nat
  /-- the committed ramp taken at the start -/
  ramp    : List Nat
  /-- timebase counts left of the period that follows the last pulse -/
  left    : Nat
deriving DecidableEq, Repr

/-- A reference search in flight (chapter 9, state table; R157). -/
structure Search where
  leg      : Leg
  /-- pulses emitted in the leg -/
  pulses   : Nat
  period   : Nat
  homePos  : Nat
  polarity : Polarity
  /-- timebase counts left of the search period -/
  left     : Nat
deriving DecidableEq, Repr

/-- The motion state with what is in flight (R113). -/
inductive Motion where
  | still
  | moving (m : Move)
  | searching (x : Search)
deriving DecidableEq, Repr

structure Bar where
  mode        : Mode
  referenced  : Bool
  /-- the step position (R112) -/
  pos         : Nat
  motion      : Motion
  target      : Nat
  next        : Option Nat
  cls         : ClassIx
  lapSet      : Fin 4
  /-- the travel limit, needle spaces (R111) -/
  limit       : Nat
  activeTrim  : Int
  pendingTrim : Int
  homePos     : Nat
  homePol     : Polarity
  /-- output levels, true is high (R110) -/
  enable      : Bool
  step        : Bool
  dirHigh     : Bool
  /-- timebase counts left of the step pulse in progress -/
  pulseLeft   : Nat
deriving DecidableEq, Repr

/-! ### Node controller (chapter 8) -/

inductive NodeState where
  | offline
  | armed
  | running
  | hold
  | catchup
deriving DecidableEq, Repr

structure Node where
  state       : NodeState
  desync      : Bool
  /-- is the stop request asserted (R134)? -/
  stopReq     : Bool
  /-- catch-up targets in steps (R145) -/
  catchup     : Vector (Option Nat) 16
  guardEnable : Bool
  us          : Nat
  ul          : Nat
  os          : Nat
  ol          : Nat
  margin      : Nat
deriving DecidableEq, Repr

/-! ### Fault records (chapter 10) -/

inductive NodeCode where
  | starved
  | unfit
  | indexSlip
  | indexMissing
  | retraceExhausted
  | holdCrossing
  | catchupDisturbed
  | ringLost
deriving DecidableEq, Repr

inductive BarCode where
  | guard
  | late
  | limit
  | noHome
deriving DecidableEq, Repr

/-- One capture of a fault record (R163, R164). -/
structure FaultCapture (Code : Type) where
  code     : Code
  tag      : Option Word
  angle    : Nat
  repeated : Bool
deriving DecidableEq, Repr

structure Faults where
  node : Option (FaultCapture NodeCode)
  bars : Vector (Option (FaultCapture BarCode)) 16
deriving DecidableEq, Repr

/-! ### Course ring port (chapter 11) -/

/-- A frame's place in the forwarding store (R175): the characters received, and, once the frame is judged and its verdict
or reply known, the characters it is sent as. Until then its characters from heldFrom on are held. -/
structure Forward where
  ticket   : Nat
  received : List Byte
  chars    : Option (List Byte)
deriving DecidableEq, Repr

/-- A service request held until it can be taken (R34). -/
structure Deferred where
  op     : ServiceOp
  env    : Envelope
  ticket : Nat
  form   : ReplyForm
deriving DecidableEq, Repr

structure Ring where
  /-- the straps as last read; the node address is one more (R178) -/
  straps     : BitVec 3
  up         : Bool
  /-- the silence watch: none when stopped, else the timebase counts since it was started (R183) -/
  silence    : Option Nat
  forwarding : List Forward
  nextTicket : Nat
  /-- course frames waiting for the expansion in progress or the words of a LOAD, in order -/
  waiting    : List (Nat × CourseFrame)
  /-- service operations waiting, in order -/
  deferred   : List Deferred
  /-- the frames sent, in order, each as its characters; a pin reset leaves a frame partly sent cut short here (R184) -/
  sent       : List (List Byte)
deriving DecidableEq, Repr

/-! ### The node -/

structure State where
  tracker  : Tracker
  store    : Store
  expander : Expander
  engine   : Engine
  queue    : Queue
  bars     : Vector Bar 16
  node     : Node
  faults   : Faults
  ring     : Ring
  /-- the levels of HOME0..HOME15 as last presented (R156) -/
  homes    : BitVec 16
  /-- is the reset input active (R184)? -/
  inReset  : Bool
  /-- how many choices the free values of Config have been asked for (entry 7) -/
  choices  : Nat
  /-- the commands that are waiting, first in first out -/
  pending  : List Instr
deriving DecidableEq, Repr

/-- Why a step faults. -/
inductive Fault where
  /-- A word access outside 0..66,687 (R19). Raised by WORD_ACCESS_COMPLETE. Safe: the spec says that no client forms such
  an address, and no run from reset does. -/
  | storeAddress (addr : Nat)
deriving DecidableEq, Repr

/-- Why a step is refused. -/
inductive Refusal where
  /-- The command has no meaning in the model. Raised by exec's arms alone; no arm raises it now. Safe. -/
  | notModelled (mnemonic : String)
deriving DecidableEq, Repr

/-! ### The state right after power-on -/

/-- The saturated revolution period (R16). -/
def saturated : Nat := 16777215

/-- The tracker at power-on and at a pin reset (R18), with the levels A and B for its reference. -/
def Tracker.initial (a b : Bool) : Tracker where
  angle := 0
  angleValid := false
  dir := .stopped
  recross := 0
  recrossForward := false
  sinceIndex := 0
  oneShot := none
  timeout := 20
  period := 0
  spoiled := false
  tMeas := saturated
  levelA := a
  levelB := b
  indexWas := false

/-- The number of words of the store (R19). -/
def storeSize : Nat := 66688

/-- The store at power-on (R36). -/
def Store.initial : Store where
  words := []
  state := .clearing
  clearLeft := storeSize
  access := none
  waitExpander := false
  waitService := false
  waitEngine := false
  capture := none
  corrected := 0
  diagMode := false
  diagValue := 0
  staging := []
  read := none

/-- The expander after power-on and pin reset (R38, R54). -/
def Expander.initial : Expander := { rowCountA := 4096, rowCountB := 4096, job := none }

/-- A class after power-on and pin reset (R73). -/
def DriveClass.initial : DriveClass :=
  { spn := 20, length := 8, state := .invalid, ramp := none, table := none, outcome := .none }

/-- The class engine after power-on and pin reset (R73). -/
def Engine.initial : Engine := { classes := Vector.replicate 4 DriveClass.initial, commit := none }

/-- The queue after every reset (R77, R107). -/
def Queue.initial : Queue := { history := [], current := none, pending := [], expected := none, dueCheck := none }

/-- A bar motion unit after power-on (R132). -/
def Bar.initial : Bar where
  mode := .parked
  referenced := false
  pos := 0
  motion := .still
  target := 0
  next := none
  cls := 0
  lapSet := 0
  limit := 63
  activeTrim := 0
  pendingTrim := 0
  homePos := 0
  homePol := .activeLow
  enable := false
  step := false
  dirHigh := false
  pulseLeft := 0

/-- The node controller after power-on and pin reset (R151). -/
def Node.initial : Node where
  state := .offline
  desync := false
  stopReq := true
  catchup := Vector.replicate 16 none
  guardEnable := false
  us := 200
  ul := 280
  os := 560
  ol := 96
  margin := 16

/-- The fault records after every reset (R171). -/
def Faults.initial : Faults := { node := none, bars := Vector.replicate 16 none }

/-- The ring port after power-on (R183, R184), with the straps read. -/
def Ring.initial (straps : BitVec 3) : Ring where
  straps := straps
  up := false
  silence := none
  forwarding := []
  nextTicket := 0
  waiting := []
  deferred := []
  sent := []

/-- The node at the end of power-on, with the pin levels taken then (R18, R36, R132, R151, R178, R184). -/
def State.poweredOn (straps : BitVec 3) (a b : Bool) (homes : BitVec 16) : State where
  tracker := .initial a b
  store := .initial
  expander := .initial
  engine := .initial
  queue := .initial
  bars := Vector.replicate 16 Bar.initial
  node := .initial
  faults := .initial
  ring := .initial straps
  homes := homes
  inReset := false
  choices := 0
  pending := []

/-- The machine right after reset: power-on with every input pin low (DESIGN CHOICE, entry 10). -/
def State.reset : State := State.poweredOn 0 false false 0

end Sys2Proof.Machine
end

