-- ==== Sys2Proof/Machine/Ops.lean ====
section
/-!
DEFINITION. The operations that several commands share: the word array and its check code, fault reports, the node
controller's HOLD and DESYNC, one bar's record, the forwarding store, replies.
-/

namespace Sys2Proof.Machine

/-! ### The word array (R19, R20) -/

/-- What an unlisted address reads as: data 0 and check bits 0, as the power-on clear writes (R31; entry 20). -/
def unlistedWord : Stored := 0

/-- The 22 bits stored at an address. -/
def Memory.read : Memory → Nat → Stored
  | [], _ => unlistedWord
  | (a, v) :: rest, x => if a = x then v else Memory.read rest x

/-- A write replaces all 22 bits of one word (R20) and keeps the canonical form. -/
def Memory.write : Memory → Nat → Stored → Memory
  | [], x, w => if w = unlistedWord then [] else [(x, w)]
  | (a, v) :: rest, x, w =>
    if x < a then (if w = unlistedWord then (a, v) :: rest else (x, w) :: (a, v) :: rest)
    else if x = a then (if w = unlistedWord then rest else (x, w) :: rest)
    else (a, v) :: Memory.write rest x w

/-- The canonical form: addresses of the store, strictly rising, and no entry equal to what an unlisted address reads as. -/
def Memory.wf : Memory → Bool
  | [] => true
  | (a, v) :: rest => a < storeSize && v != unlistedWord && rest.all (fun e => a < e.1) && Memory.wf rest

/-- The regions of the store (R19). -/
def bankBBase : Nat := 32768
def lapBase : Nat := 65536
def rampBase : Nat := 66560

/-- The address of a lap entry (R40). -/
def lapAddr (set : Fin 4) (code : Byte) : Nat := lapBase + 256 * set.val + code.toNat

/-- The address of a ramp entry (R58). -/
def rampAddr (c : ClassIx) (i : Nat) : Nat := rampBase + 32 * c.val + i

/-- The class whose ramp region holds an address (R19). -/
def rampClassOf (addr : Nat) : Option ClassIx :=
  if h : rampBase ≤ addr ∧ addr < rampBase + 128 then some ⟨(addr - rampBase) / 32, by omega⟩ else none

/-! ### The check code (R20, R21, R189) -/

/-- The exclusive-or of the data bits at the places listed. -/
def xorBits (d : Word) (places : List Nat) : Bool := places.foldl (fun p i => p != d.getLsbD i) false

/-- The data bits included in c0..c4 (R189). -/
def check0 (d : Word) : Bool := xorBits d [0, 1, 3, 4, 6, 8, 10, 11, 13, 15]
def check1 (d : Word) : Bool := xorBits d [0, 2, 3, 5, 6, 9, 10, 12, 13]
def check2 (d : Word) : Bool := xorBits d [1, 2, 3, 7, 8, 9, 10, 14, 15]
def check3 (d : Word) : Bool := xorBits d [4, 5, 6, 7, 8, 9, 10]
def check4 (d : Word) : Bool := xorBits d [11, 12, 13, 14, 15]

/-- The exclusive-or of all bits of a word. -/
def parity {n : Nat} (w : BitVec n) : Bool := (List.range n).foldl (fun p i => p != w.getLsbD i) false

/-- The computed c0..c4, c0 lowest. -/
def lowChecks (d : Word) : BitVec 5 :=
  BitVec.ofBool (check4 d) ++ BitVec.ofBool (check3 d) ++ BitVec.ofBool (check2 d) ++ BitVec.ofBool (check1 d)
    ++ BitVec.ofBool (check0 d)

/-- The six computed check bits, c0 lowest (R20). -/
def checkBits (d : Word) : BitVec 6 := BitVec.ofBool (parity d != parity (lowChecks d)) ++ lowChecks d

/-- A word with the check bits given (R30). -/
def storedWith (check : BitVec 6) (d : Word) : Stored := check ++ d

/-- A word with computed check bits (R20). -/
def storedOf (d : Word) : Stored := storedWith (checkBits d) d

/-- The data bits and the check bits of a stored word. -/
def dataOf (w : Stored) : Word := w.extractLsb' 0 16
def storedChecks (w : Stored) : BitVec 6 := w.extractLsb' 16 6

/-- The 5-bit codes of data bits 0..15 (section 2.2). -/
def dataCodes : List Nat := [3, 5, 6, 7, 9, 10, 11, 12, 13, 14, 15, 17, 18, 19, 20, 21]

/-- The data bit a syndrome names. -/
def dataBitOf (syndrome : BitVec 5) : Option Nat := dataCodes.findIdx? (· == syndrome.toNat)

/-- The syndrome of a stored word (R21). -/
def syndromeOf (w : Stored) : BitVec 5 := lowChecks (dataOf w) ^^^ (storedChecks w).extractLsb' 0 5

/-- One read's outcome (R21): the data delivered, or the raw data when uncorrectable; no severity means clean. -/
structure ReadOutcome where
  data     : Word
  severity : Option Severity
  syndrome : BitVec 5
  parity   : Bool
deriving DecidableEq, Repr

/-- The table of R21. -/
def readOutcome (w : Stored) : ReadOutcome :=
  let s := syndromeOf w
  let p := parity w
  let d := dataOf w
  if p = false then
    if s = 0 then ⟨d, none, s, p⟩ else ⟨d, some .uncorrectable, s, p⟩
  else
    match dataBitOf s with
    | some i => ⟨d ^^^ BitVec.twoPow 16 i, some .correctable, s, p⟩
    | none =>
      if s = 0 ∨ s = 1 ∨ s = 2 ∨ s = 4 ∨ s = 8 ∨ s = 16 then ⟨d, some .correctable, s, p⟩
      else ⟨d, some .uncorrectable, s, p⟩

/-- The ECC capture record after a report (R27). -/
def captureReport (held : Option Capture) (kind : CaptureKind) (addr : Nat) (o : ReadOutcome) : Option Capture :=
  match o.severity with
  | none => held
  | some sev =>
    match held with
    | none => some ⟨kind, addr, o.syndrome, o.parity, sev, false⟩
    | some c =>
      if c.severity = .correctable ∧ sev = .uncorrectable then some ⟨kind, addr, o.syndrome, o.parity, sev, true⟩
      else some { c with repeated := true }

/-- The corrected count after a read (R28). -/
def correctedAfter (count : Nat) (o : ReadOutcome) : Nat :=
  if o.severity = some .correctable then min 255 (count + 1) else count

/-- A read reported to the capture record and the corrected count (R27, R28). -/
def Store.report (st : Store) (kind : CaptureKind) (addr : Nat) (o : ReadOutcome) : Store :=
  { st with capture := captureReport st.capture kind addr o, corrected := correctedAfter st.corrected o }

/-! ### Fault reports (R165) -/

/-- A record taking a report (R165). -/
def reportTo {Code : Type} (rec : Option (FaultCapture Code)) (code : Code) (tag : Option Word) (angle : Nat) :
    Option (FaultCapture Code) :=
  match rec with
  | none => some ⟨code, tag, angle, false⟩
  | some c => some { c with repeated := true }

/-- The current record's tag, or none (R166, R167). -/
def State.currentTag (s : State) : Option Word := s.queue.current.map CourseRecord.tag

/-- A report to the node fault record (R166). -/
def State.reportNode (s : State) (code : NodeCode) (tag : Option Word) (angle : Nat) : State :=
  { s with faults := { s.faults with node := reportTo s.faults.node code tag angle } }

/-- A report to a bar's fault record (R167). -/
def State.reportBar (s : State) (n : BarIx) (code : BarCode) (tag : Option Word) (angle : Nat) : State :=
  { s with faults := { s.faults with bars := s.faults.bars.set n (reportTo s.faults.bars[n] code tag angle) } }

/-! ### The node controller's state and requests (R133 to R137) -/

/-- The states in which the stop request is asserted (R134). -/
def NodeState.asserts : NodeState → Bool
  | .offline | .hold | .catchup => true
  | .armed | .running => false

/-- No catch-up targets. -/
def noTargets : Vector (Option Nat) 16 := Vector.replicate 16 none

/-- The node takes a state; the stop-request output changes with it (R134). -/
def Node.enter (n : Node) (st : NodeState) : Node := { n with state := st, stopReq := st.asserts }

/-- A hold request taken by the node controller (R135, R137): HOLD from RUNNING and CATCHUP, with the catch-up targets
discarded; DESYNC, when the request carries it, in RUNNING, HOLD and CATCHUP. -/
def Node.requestHold (n : Node) (desync : Bool) : Node :=
  match n.state with
  | .offline | .armed => n
  | .hold => { n with desync := n.desync || desync }
  | .running | .catchup => { n.enter .hold with desync := n.desync || desync, catchup := noTargets }

def State.requestHold (s : State) (desync : Bool) : State := { s with node := s.node.requestHold desync }

/-! ### Bars -/

/-- One bar's record replaced. -/
def State.setBar (s : State) (n : BarIx) (b : Bar) : State := { s with bars := s.bars.set n b }

/-- Every bar changed by one function of its record. -/
def mapBars (bars : Vector Bar 16) (f : Bar → Bar) : Vector Bar 16 := Vector.ofFn fun i => f bars[i]

/-- Does some bar have a property? -/
def anyBar (bars : Vector Bar 16) (p : Bar → Bool) : Bool := (List.finRange 16).any fun i => p bars[i]

/-- The class of a bar. -/
def State.classOf (s : State) (b : Bar) : DriveClass := s.engine.classes[b.cls]

/-- Each bar's pending trim becomes its active trim (R121). -/
def activateTrims (bars : Vector Bar 16) : Vector Bar 16 := mapBars bars fun b => { b with activeTrim := b.pendingTrim }

/-- Is a move or a search in flight (R113)? -/
def Motion.isMoving : Motion → Bool
  | .moving _ => true
  | _ => false

def Motion.isSearching : Motion → Bool
  | .searching _ => true
  | _ => false

def Motion.isStill : Motion → Bool
  | .still => true
  | _ => false

/-- MOVING or SEARCHING, which refuses the bar's SET_PARAMs, JOG, REFERENCE and RESTART. -/
def Bar.busy (b : Bar) : Bool := !b.motion.isStill

/-! ### The forwarding store (R175) -/

/-- The ready frames at the front, and the entries left behind them. -/
def flushReady : List Forward → List (List Byte) × List Forward
  | ⟨_, _, some chars⟩ :: rest => let r := flushReady rest; (chars :: r.1, r.2)
  | rest => ([], rest)

/-- A frame received takes its place at the end of the forwarding store, which holds its characters (R175). -/
def Ring.enter (r : Ring) (received : List Byte) : Ring :=
  { r with forwarding := r.forwarding ++ [⟨r.nextTicket, received, none⟩], nextTicket := r.nextTicket + 1 }

/-- What a held frame will be sent as becomes known; frames are sent in the order received (R175). -/
def Ring.release (r : Ring) (ticket : Nat) (chars : List Byte) : Ring :=
  let filled := r.forwarding.map fun e => if e.ticket = ticket then { e with chars := some chars } else e
  let f := flushReady filled
  { r with forwarding := f.2, sent := r.sent ++ f.1 }

def State.release (s : State) (ticket : Nat) (chars : List Byte) : State := { s with ring := s.ring.release ticket chars }

/-- The node address, 1..8 (R178). -/
def Ring.address (r : Ring) : Nat := r.straps.toNat + 1

/-- The index of the first character of a frame that is held until its verdict or reply is known (R175): of a course frame
the first of its status slots, of a service request addressed to this node its kind, of any other frame its mark. -/
def heldFrom (address : Nat) (received : List Byte) : Nat :=
  if received.getD 1 0 = kindCourse then 8 + 3 * (received.getD 7 0).toNat
  else if received.getD 1 0 = kindRequest ∧ (received.getD 2 0).toNat = address then 1
  else received.length - 1

/-- The characters that have left the node of the frame at the front while the rest of it is held (R175). -/
def Ring.headSent (r : Ring) : Option (List Byte) :=
  match r.forwarding with
  | ⟨_, received, none⟩ :: _ => some (received.take (heldFrom r.address received))
  | _ => none

/-- A start character restarts a running silence watch (R183). -/
def Ring.startSeen (r : Ring) : Ring := { r with silence := if r.up then some 0 else r.silence }

/-- A clean frame of any kind makes the ring UP and starts or restarts the silence watch (R183). -/
def Ring.cleanSeen (r : Ring) : Ring := { r with up := true, silence := some 0 }

/-! ### Replies (R179, R180, R186) -/

/-- The result codes of R180. -/
inductive Result where
  | done
  | started
  | clamped
  | state
  | range
  | busy
  | notReady
  | eccFail
  | unknownOp
deriving DecidableEq, Repr

/-- The values of 12.2. -/
def Result.byte : Result → Byte
  | .done => 1
  | .started => 2
  | .clamped => 3
  | .state => 4
  | .range => 5
  | .busy => 6
  | .notReady => 7
  | .eccFail => 8
  | .unknownOp => 9

/-- The NOT_READY reasons of R180. -/
inductive Reason where
  | angle
  | cls
  | unreferenced
  | offNeedle
  | windows
  | diag
  | desync
  | shaft
deriving DecidableEq, Repr

def Reason.byte : Reason → Byte
  | .angle => 1
  | .cls => 2
  | .unreferenced => 3
  | .offNeedle => 4
  | .windows => 5
  | .diag => 6
  | .desync => 7
  | .shaft => 8

/-- What a reply rewrites (R180, R186): the result slot, and where given a2–a3, a4, a5 and the data words. -/
structure Reply where
  result : Result
  value  : Option Word := none
  bad    : Option Nat := none
  reason : Option Reason := none
  data   : Option (List Word) := none
deriving DecidableEq, Repr

/-- A reply that rewrites the result slot alone. -/
def Reply.only (r : Result) : Reply := { result := r }

/-- A NOT_READY with its reason. -/
def Reply.notReady (r : Reason) : Reply := { result := .notReady, reason := some r }

/-- The argument block of a reply (R186). -/
def Reply.args (rep : Reply) (a : Args) : Args :=
  { a with
    a2 := (rep.value.map hiByte).getD a.a2
    a3 := (rep.value.map loByte).getD a.a3
    a4 := (rep.bad.map (BitVec.ofNat 8)).getD a.a4
    a5 := (rep.reason.map Reason.byte).getD a.a5 }

/-- The reply to a request as a service frame (R179). -/
def Reply.frame (rep : Reply) (address : Nat) (op : ServiceOp) (env : Envelope) : ServiceFrame :=
  { reply := true
    dest := BitVec.ofNat 8 address
    seq := env.seq
    op := opByte op
    args := rep.args (argsOf op env.spare)
    data := rep.data.getD env.data
    slot := rep.result.byte }

/-- The characters a reply is sent as (R179); the CRC of a reply marked for a bad CRC is a free value (entry 13). -/
def Reply.chars (rep : Reply) (form : ReplyForm) (address : Nat) (op : ServiceOp) (env : Envelope) : List Byte :=
  let body := serviceBody (rep.frame address op env)
  match form with
  | .clean => cleanFrameOf body
  | .marked => frameOf body (Config.markedReplyCrc body) markCorrupt
  | .fixed chars => chars

/-- The reply is formed and the held frame is sent (R179). -/
def State.answer (s : State) (ticket : Nat) (form : ReplyForm) (op : ServiceOp) (env : Envelope) (rep : Reply) : State :=
  s.release ticket (rep.chars form s.ring.address op env)

end Sys2Proof.Machine
end

