-- ==== Sys2Proof/Machine/Operands.lean ====
section
/-!
DEFINITION. Operand forms: how argument bytes and parameter values are read (R181, R186), and the values as written back.
-/

namespace Sys2Proof.Machine

/-- A local bar named by a byte, none outside 0..15 (R109, R153, R157, R181). -/
def barOf (b : Byte) : Option BarIx := if h : b.toNat < 16 then some ⟨b.toNat, h⟩ else none

/-- A class named by a byte, none outside 0..3 (R56, R65, R181). -/
def classIxOf (b : Byte) : Option ClassIx := if h : b.toNat < 4 then some ⟨b.toNat, h⟩ else none

/-- An unsigned value inside a range, none outside it (R186). -/
def inRange (lo hi : Nat) (v : Word) : Option Nat := if lo ≤ v.toNat ∧ v.toNat ≤ hi then some v.toNat else none

/-- A number 0..3 (R41, R57). -/
def quarterOf (v : Word) : Option (Fin 4) := if h : v.toNat < 4 then some ⟨v.toNat, h⟩ else none

/-- A flag: 0 clear or off, 1 set or on, nothing else (R186). -/
def flagOf (v : Word) : Option Bool := if v = 0 then some false else if v = 1 then some true else none

/-- A mode (R186). -/
def modeOf (v : Word) : Option Mode :=
  if v = 0 then some .parked else if v = 1 then some .jog else if v = 2 then some .motion else none

def modeNumber : Mode → Nat
  | .parked => 0
  | .jog => 1
  | .motion => 2

/-- A home polarity (R186). -/
def polarityOf (v : Word) : Option Polarity :=
  if v = 0 then some .activeLow else if v = 1 then some .activeHigh else none

def polarityNumber : Polarity → Nat
  | .activeLow => 0
  | .activeHigh => 1

/-- A trim: 16-bit two's complement, −64..63 (R121, R186). -/
def trimOf (v : Word) : Option Int := if -64 ≤ v.toInt ∧ v.toInt ≤ 63 then some v.toInt else none

/-- A signed value as a two's-complement word (R186, R188). -/
def wordOfInt (i : Int) : Word := BitVec.ofInt 16 i

/-- A JOG's step count: 16-bit two's complement, −4096..4095 (R153, R186). -/
def stepsOf (v : Word) : Option Int := if -4096 ≤ v.toInt ∧ v.toInt ≤ 4095 then some v.toInt else none

/-- The bank a course frame's bank byte names (R185), none when it names neither (R80). -/
def bankOf (b : Byte) : Option Bank := if b = 0 then some .a else if b = 1 then some .b else none

def bankNumber : Bank → Nat
  | .a => 0
  | .b => 1

/-- The local bar an override's global number names at a node address (R42). -/
def localBar (address : Nat) (global : Byte) : Option BarIx :=
  if h : (address - 1) * 16 ≤ global.toNat ∧ global.toNat < (address - 1) * 16 + 16 then
    some ⟨global.toNat - (address - 1) * 16, by omega⟩
  else none

/-- The level of a bar's home input (R156). -/
def State.homeLevel (s : State) (n : BarIx) : Bool := s.homes.getLsbD n.val

/-- Is a level active under a polarity (R156)? -/
def homeActive (p : Polarity) (level : Bool) : Bool :=
  match p with
  | .activeLow => !level
  | .activeHigh => level

end Sys2Proof.Machine
end

