-- ==== Sys2Proof/Machine/Flags.lean ====
section
/-!
DEFINITION. What the node reports of itself in a status slot (R85, R170, R177): the verdict, the node state, the pending
count, the attention flags and the node ceiling.
-/

namespace Sys2Proof.Machine

/-- The verdicts of R177. -/
inductive Verdict where
  | accepted
  | duplicate
  | gap
  | full
  | state
  | busy
  | malformed
  | ecc
deriving DecidableEq, Repr

/-- The values of 12.1. -/
def Verdict.byte : Verdict → Byte
  | .accepted => 1
  | .duplicate => 2
  | .gap => 3
  | .full => 4
  | .state => 5
  | .busy => 6
  | .malformed => 7
  | .ecc => 8

def NodeState.number : NodeState → Nat
  | .offline => 0
  | .armed => 1
  | .running => 2
  | .hold => 3
  | .catchup => 4

/-- A flag as a number with that bit set. -/
def bitAt (b : Bool) (place : Nat) : Nat := if b then 2 ^ place else 0

/-- The attention flags: NODE, BAR, ECC, DESYNC in bits 0..3, bits 4..7 zero (R170, R185). -/
def State.attention (s : State) : Byte :=
  BitVec.ofNat 8
    (bitAt s.faults.node.isSome 0 + bitAt ((List.finRange 16).any fun i => s.faults.bars[i].isSome) 1
      + bitAt s.store.capture.isSome 2 + bitAt s.node.desync 3)

/-- The largest ceiling and measured speed (R17, R102). -/
def maxSpeed : Nat := 65535

/-- The least ceiling of a list of records, starting from a bound. -/
def leastCeiling (rs : List CourseRecord) (bound : Nat) : Nat := rs.foldl (fun m r => min m r.ceiling) bound

/-- The node ceiling: the least ceiling among the current and pending records, 65535 when none is held (R103). -/
def Queue.ceiling (q : Queue) : Nat := leastCeiling (q.current.toList ++ q.pending) maxSpeed

/-- The status slot the node writes with a verdict (R177, R185). -/
def State.slot (s : State) (v : Verdict) : Slot where
  verdict := v.byte
  nodeState := BitVec.ofNat 8 s.node.state.number
  pending := BitVec.ofNat 8 s.queue.pending.length
  attention := s.attention
  ceilingHi := hiByte (BitVec.ofNat 16 s.queue.ceiling)
  ceilingLo := loByte (BitVec.ofNat 16 s.queue.ceiling)

/-- A course frame with this node's slot written: the slot whose index, counting from 1, is the node address (R177). -/
def frameWithSlot (f : CourseFrame) (straps : BitVec 3) (x : Slot) : CourseFrame :=
  { f with slots := f.slots.set straps.toNat x straps.isLt }

/-- The verdict is written into the frame and the frame is sent with its CRC recomputed (R176, R177). -/
def State.answerCourse (s : State) (ticket : Nat) (f : CourseFrame) (v : Verdict) : State :=
  s.release ticket (cleanFrameOf (courseBody (frameWithSlot f s.ring.straps (s.slot v))))

end Sys2Proof.Machine
end

