-- ==== Sys2Proof/Machine/Planner.lean ====
section
/-!
DEFINITION. Move profiles and move times (chapter 4, R59 to R63), and the planner (chapter 6, R97 to R104).
-/

namespace Sys2Proof.Machine

/-! ### The move profile and the move time -/

/-- Entry p(i) of a ramp, counting from 1; a ramp with no such entry gives 0. -/
def rampEntry (ramp : List Nat) (i : Nat) : Nat := ramp.getD (i - 1) 0

/-- The period that follows pulse k, 1..S, of a move of S steps (R60, R61). -/
def periodAfter (ramp : List Nat) (steps k : Nat) : Nat :=
  let l := ramp.length
  if 2 * l ≤ steps then
    if k ≤ l then rampEntry ramp k
    else if k ≤ steps - l then rampEntry ramp l
    else rampEntry ramp (steps - k + 1)
  else
    let a := (steps + 1) / 2
    if k ≤ a then rampEntry ramp k else rampEntry ramp (steps - k + 1)

/-- The move time M(S) (R60, R61, R62). -/
def moveTime (ramp : List Nat) (steps : Nat) : Nat :=
  let l := ramp.length
  if 2 * l ≤ steps then 2 * ramp.sum + (steps - 2 * l) * rampEntry ramp l
  else (ramp.take ((steps + 1) / 2)).sum + (ramp.take (steps / 2)).sum

/-- Entry MT[d] for d needle spaces (R63). -/
def tableEntry (ramp : List Nat) (spn d : Nat) : Nat := moveTime ramp (d * spn)

/-- The move-time table MT[0]..MT[63] (R63, R67). -/
def moveTable (ramp : List Nat) (spn : Nat) : List Nat := (List.range 64).map (tableEntry ramp spn)

/-- A fetched ramp entry, raised to 20 when it is below (R59). -/
def clampEntry (v : Nat) : Nat := max 20 v

/-! ### Required periods and ceilings -/

/-- A quotient rounded up. -/
def ceilDiv (a b : Nat) : Nat := (a + b - 1) / b

/-- The requirement of a move of duration `mt` in a window of `w` shaft units (R100). -/
def requirement (mt w : Nat) : Nat := ceilDiv (mt * 1440) w

/-- The absolute difference of two positions. -/
def distance (a b : Nat) : Nat := if a ≤ b then b - a else a - b

/-- The ceiling of a T_min (R102). -/
def ceilingOf (tMin : Nat) : Nat := if tMin = 0 then maxSpeed else min maxSpeed (600000000 / tMin)

/-- The move time the planner looks up for a bar of a class, 0 where the class has no table (entry 22). -/
def lookupTime (c : DriveClass) (d : Nat) : Nat := (c.table.getD []).getD d 0

/-- A plan's distances against the bar's trail in the predecessor (R98); an EXCLUDED plan has none. -/
def planDistances (p prev : BarPlan) : BarPlan :=
  if p.source = .excluded then p
  else { p with underlap := distance p.lead prev.trail, overlap := distance p.trail p.lead }

/-- The requirement of a bar (R99 to R101); an EXCLUDED plan requires nothing. -/
def barRequirement (c : DriveClass) (ul ol : Nat) (p : BarPlan) : Nat :=
  if p.source = .excluded then 0
  else max (requirement (lookupTime c p.underlap) ul) (requirement (lookupTime c p.overlap) ol)

/-- The largest requirement over the bars, capped (R101). -/
def requiredPeriod (s : State) (plans : Vector BarPlan 16) : Nat :=
  min saturated
    ((List.finRange 16).foldl (fun m i => max m (barRequirement (s.classOf s.bars[i]) s.node.ul s.node.ol plans[i])) 0)

/-- One planning of a record against its predecessor (R97 to R102). -/
def planRecord (s : State) (r prev : CourseRecord) : CourseRecord :=
  let plans := Vector.ofFn fun i => planDistances r.plans[i] prev.plans[i]
  let t := requiredPeriod s plans
  { r with plans := plans, tMin := t, ceiling := ceilingOf t }

/-- The records of a list planned in order, each against the one before it (R104). -/
def planAll (s : State) (prev : CourseRecord) : List CourseRecord → List CourseRecord
  | [] => []
  | r :: rest => let r' := planRecord s r prev; r' :: planAll s r' rest

/-- The record a pending head is planned against: the current record, or the newest of the history (R104). -/
def Queue.beforePending (q : Queue) : Option CourseRecord :=
  match q.current with
  | some r => some r
  | none => q.history.getLast?

/-- The pending list planned again at a swap (R104). -/
def State.rePlan (s : State) : State :=
  match s.queue.beforePending with
  | none => s
  | some prev => { s with queue := { s.queue with pending := planAll s prev s.queue.pending } }

end Sys2Proof.Machine
end

