-- ==== Sys2Proof/Machine/BarMotion.lean ====
section
/-!
DEFINITION. The bar motion units (chapter 7) and the searches of chapter 9: pulses, moves, targets, window edges, triggers
and guards, the end of a move, the end of a catch-up.
-/

namespace Sys2Proof.Machine

/-- How long a step pulse holds the step output high, in timebase counts (R110). -/
def pulseWidth : Nat := 10

/-! ### Pulses and moves (R110 to R115) -/

/-- The step output goes high for a pulse (R110). -/
def Bar.raiseStep (b : Bar) : Bar := { b with step := true, pulseLeft := pulseWidth }

/-- The step position after one pulse: a referenced bar's counts, an unreferenced bar's stays (R112). -/
def Bar.posAfterPulse (b : Bar) (up : Bool) : Nat :=
  if b.referenced then (if up then b.pos + 1 else b.pos - 1) else b.pos

/-- The next step pulse of a move (R112, R115). -/
def Bar.movePulse (b : Bar) (m : Move) : Bar :=
  { b.raiseStep with
    pos := b.posAfterPulse m.up
    motion := .moving { m with emitted := m.emitted + 1, left := periodAfter m.ramp m.steps (m.emitted + 1) } }

/-- A move of a number of steps starts along a ramp, towards a current target; the direction output is set and the
first pulse is emitted (R114, R115). -/
def Bar.startSteps (b : Bar) (ramp : List Nat) (up : Bool) (steps target : Nat) : Bar :=
  { b with dirHigh := up, target := target }.movePulse { up := up, steps := steps, emitted := 0, ramp := ramp, left := 0 }

/-- A target given to a unit that is STILL: a move starts when the target differs from the step position and the class
has a committed ramp (R114). -/
def Bar.startToward (b : Bar) (ramp : Option (List Nat)) (target : Nat) : Bar :=
  if target = b.pos then b
  else
    match ramp with
    | none => b
    | some r => b.startSteps r (b.pos < target) (distance b.pos target) target

/-- A target given to a unit in any motion state (R117, R118): a STILL unit starts, a MOVING one keeps it as its next
target, a SEARCHING one is given none. -/
def Bar.giveTarget (b : Bar) (ramp : Option (List Nat)) (target : Nat) : Bar :=
  match b.motion with
  | .still => b.startToward ramp target
  | .moving _ => { b with next := some target }
  | .searching _ => b

/-- The committed ramp of a bar's class (R70). -/
def State.rampOf (s : State) (b : Bar) : Option (List Nat) := (s.classOf b).ramp

/-! ### Windows and trims (R4, R120, R122) -/

/-- The conditions of R120. -/
def Node.windowsOk (n : Node) : Bool := 1 ≤ n.us && n.us + n.ul ≤ n.os && n.os + n.ol ≤ 1439

/-- The effective trim (R122), meaningful while the windows are in order. -/
def Node.effectiveTrim (n : Node) (trim : Int) : Int :=
  min (max trim (1 - (n.us : Int))) (1439 - (n.os : Int) - (n.ol : Int))

inductive Edge where
  | underlapStart
  | underlapEnd
  | overlapStart
  | overlapEnd
deriving DecidableEq, Repr

/-- The angle of a bar's edge (R4), none while the windows fail R120's conditions (R122). -/
def Node.edgeAngle (n : Node) (trim : Int) (e : Edge) : Option Nat :=
  if n.windowsOk then
    let base := match e with
      | .underlapStart => n.us
      | .underlapEnd => n.us + n.ul
      | .overlapStart => n.os
      | .overlapEnd => n.os + n.ol
    some ((base : Int) + n.effectiveTrim trim).toNat
  else none

/-- The edges in the order the shaft meets them (R5). -/
def edgeOrder (forward : Bool) : List Edge :=
  if forward then [.underlapStart, .underlapEnd, .overlapStart, .overlapEnd]
  else [.overlapEnd, .overlapStart, .underlapEnd, .underlapStart]

/-- A window-crossing event (R5): one edge of one bar, its angle and the direction of the crossing. -/
structure Crossing where
  bar     : BarIx
  edge    : Edge
  angle   : Nat
  forward : Bool
deriving DecidableEq, Repr

/-- The crossings of one bar's edges at an angle, in the order of R5. -/
def barCrossings (s : State) (forward : Bool) (angle : Nat) (n : BarIx) : List Crossing :=
  ((edgeOrder forward).filter fun e => s.node.edgeAngle s.bars[n].activeTrim e == some angle).map
    fun e => ⟨n, e, angle, forward⟩

/-- The crossings of every bar's edges at an angle. -/
def crossingsAt (s : State) (forward : Bool) (angle : Nat) : List Crossing :=
  (List.finRange 16).flatMap (barCrossings s forward angle)

/-! ### Triggers and guards (R123 to R129) -/

/-- What a crossing means to a unit (R123). -/
inductive Meaning where
  | trigger
  | guard
deriving DecidableEq, Repr

def crossingMeaning (e : Edge) (forward : Bool) : Meaning :=
  match e, forward with
  | .underlapStart, true | .overlapStart, true | .underlapEnd, false | .overlapEnd, false => .trigger
  | .underlapEnd, true | .overlapEnd, true | .underlapStart, false | .overlapStart, false => .guard

/-- The needle position a trigger's crossing asks for (R124, R125): none when the record it reads is not held. -/
def triggerNeedle (q : Queue) (n : BarIx) (e : Edge) (forward : Bool) : Option Nat :=
  match e, forward with
  | .underlapStart, true | .overlapEnd, false => q.current.map fun r => r.plans[n].lead
  | .overlapStart, true => q.current.map fun r => r.plans[n].trail
  | .underlapEnd, false => q.history.getLast?.map fun r => r.plans[n].trail
  | _, _ => none

/-- A course target is taken by its unit (R117, R126). -/
def takeCourseTarget (s : State) (c : Crossing) (needle : Nat) : State :=
  let b := s.bars[c.bar]
  let target := needle * (s.classOf b).spn
  let given := s.setBar c.bar (b.giveTarget (s.rampOf b) target)
  if b.motion.isMoving then given.reportBar c.bar .late s.currentTag c.angle else given

/-- A unit takes a window crossing (R123): it acts in RUNNING for a MOTION bar. -/
def takeCrossing (s : State) (c : Crossing) : State :=
  if s.node.state = .running ∧ s.bars[c.bar].mode = .motion then
    match crossingMeaning c.edge c.forward with
    | .trigger =>
      match triggerNeedle s.queue c.bar c.edge c.forward with
      | none => s
      | some needle => takeCourseTarget s c needle
    | .guard =>
      if s.bars[c.bar].motion.isMoving then s.reportBar c.bar .guard s.currentTag c.angle else s
  else s

/-- Does a unit's crossing, as it takes it, request HOLD (R129)? -/
def requestsHold (s : State) (c : Crossing) : Bool :=
  s.node.guardEnable && s.node.state == .running && s.bars[c.bar].mode == .motion
    && crossingMeaning c.edge c.forward == .guard && s.bars[c.bar].motion.isMoving

/-- Crossings taken one after another, with whether any of them requested HOLD. -/
def takeCrossings : State → List Crossing → State × Bool
  | s, [] => (s, false)
  | s, c :: rest =>
    let r := takeCrossings (takeCrossing s c) rest
    (r.1, requestsHold s c || r.2)

/-- The crossings the units take before a HOLD of the same increment: a free choice for each, except that a bar's later
crossing is not taken before HOLD when an earlier one of it is not (R130; entry 4). -/
def beforeHoldOf (seed : Nat) : Nat → List BarIx → List Crossing → List Crossing
  | _, _, [] => []
  | k, held, c :: rest =>
    if c.bar ∈ held ∨ Config.beforeHold seed k = false then beforeHoldOf seed (k + 1) (c.bar :: held) rest
    else c :: beforeHoldOf seed (k + 1) held rest

/-- The window crossings of one increment are taken, and a HOLD that a guard among them requests (R129, R130). The
second component is true when the node controller has still to take that HOLD after the boundary of the same
increment (R86). Without a request no order matters. -/
def takeIncrementCrossings (seed : Nat) (s : State) (cs : List Crossing) : State × Bool :=
  let all := takeCrossings s cs
  if all.2 = false then (all.1, false)
  else if Config.holdAfterBoundary seed then (all.1, true)
  else
    let early := takeCrossings s (beforeHoldOf seed 0 [] cs)
    if early.2 then (early.1.requestHold false, false) else (all.1.requestHold false, false)

/-! ### The end of a move and of a catch-up (R116, R146) -/

/-- Does every MOTION bar stand STILL at its catch-up target (R146)? -/
def catchupReached (s : State) : Bool :=
  (List.finRange 16).all fun i =>
    let b := s.bars[i]
    b.mode != .motion || (b.motion.isStill && s.node.catchup[i] == some b.pos)

/-- The node controller evaluates the completion of a catch-up (R146). -/
def State.evaluateCatchup (s : State) : State :=
  if s.node.state = .catchup ∧ catchupReached s = true then
    { s with node := { s.node.enter .running with catchup := noTargets } }
  else s

/-- The node states in which a completing move takes up its next target (R116). -/
def takesUpNext : NodeState → Bool
  | .running | .catchup => true
  | .offline | .armed | .hold => false

/-- The unit at a completion: STILL, or off towards its next target (R116). -/
def Bar.completeMove (b : Bar) (ramp : Option (List Nat)) (st : NodeState) : Bar :=
  let rested := { b with motion := .still, next := none }
  match b.next with
  | none => rested
  | some t => if takesUpNext st then rested.startToward ramp t else rested

/-- A move completes and the unit reports it (R116). -/
def State.completeMove (s : State) (n : BarIx) : State :=
  let b := s.bars[n]
  (s.setBar n (b.completeMove (s.rampOf b) s.node.state)).evaluateCatchup

/-! ### Reference searches (R157 to R160) -/

/-- The most pulses a leg emits (R158, R159). -/
def legLimit : Nat := 4160

/-- A leg begins: its direction, and its first pulse (R158, R159). -/
def Bar.startLeg (b : Bar) (x : Search) (leg : Leg) : Bar :=
  { b.raiseStep with
    dirHigh := leg == .backOff
    motion := .searching { x with leg := leg, pulses := 1, left := x.period } }

/-- The next pulse of a leg. -/
def Bar.legPulse (b : Bar) (x : Search) : Bar :=
  { b.raiseStep with motion := .searching { x with pulses := x.pulses + 1, left := x.period } }

/-- Home is found (R159). -/
def Bar.homeFound (b : Bar) (x : Search) (spn : Nat) : Bar :=
  let p := min x.homePos (b.limit * spn)
  { b with pos := p, target := p, referenced := true, motion := .still }

/-- A search fails (R160). -/
def Bar.searchFailed (b : Bar) : Bar := { b with referenced := false, pos := 0, target := 0, motion := .still }

/-- A search fails and NO_HOME is reported (R160). -/
def State.failSearch (s : State) (n : BarIx) : State :=
  (s.setBar n s.bars[n].searchFailed).reportBar n .noHome s.currentTag s.tracker.angle

/-- The sample at the end of a search period (R158, R159). -/
def State.sampleSearch (s : State) (n : BarIx) (x : Search) : State :=
  let b := s.bars[n]
  let active := homeActive x.polarity (s.homeLevel n)
  match x.leg with
  | .backOff =>
    if active = false then s.setBar n (b.startLeg x .seek)
    else if x.pulses < legLimit then s.setBar n (b.legPulse x)
    else s.failSearch n
  | .seek =>
    if active then (s.setBar n (b.homeFound x (s.classOf b).spn)).evaluateCatchup
    else if x.pulses < legLimit then s.setBar n (b.legPulse x)
    else s.failSearch n

/-! ### The bars' events -/

/-- STEP_PULSE (R115): the period after a pulse has run out and the next pulse of the move begins. Without a move in
flight that has a pulse still to emit the event cannot occur and changes nothing (entry 1). -/
def execStepPulse (n : BarIx) (s : State) : Host.Outcome State Fault Refusal :=
  match s.bars[n].motion with
  | .moving m => .next (if m.emitted < m.steps then s.setBar n (s.bars[n].movePulse m) else s)
  | .still | .searching _ => .next s

/-- STEP_PULSE_END (R110): the step output returns low. -/
def execStepPulseEnd (n : BarIx) (s : State) : Host.Outcome State Fault Refusal :=
  .next (s.setBar n { s.bars[n] with step := false, pulseLeft := 0 })

/-- MOVE_COMPLETE (R116): the period after the last pulse has run out. -/
def execMoveComplete (n : BarIx) (s : State) : Host.Outcome State Fault Refusal :=
  match s.bars[n].motion with
  | .moving m => .next (if m.emitted < m.steps then s else s.completeMove n)
  | .still | .searching _ => .next s

/-- SEARCH_SAMPLE (R158 to R160), with the levels at the home inputs. -/
def execSearchSample (n : BarIx) (homes : BitVec 16) (s : State) : Host.Outcome State Fault Refusal :=
  let s := { s with homes := homes }
  match s.bars[n].motion with
  | .searching x => .next (s.sampleSearch n x)
  | .still | .moving _ => .next s

end Sys2Proof.Machine
end

