-- ==== Sys2Proof/Machine/CourseQueue.lean ====
section
/-!
DEFINITION. The course queue (chapter 5): the held sequence, the acceptance checks, the append, and what a course boundary
does, with the due check (chapter 6, R105 to R107).
-/

namespace Sys2Proof.Machine

/-- The most records of the history and of the pending list (R74). -/
def historyMax : Nat := 8
def pendingMax : Nat := 16

/-- The held sequence (R75). -/
def Queue.held (q : Queue) : List CourseRecord := q.history ++ q.current.toList ++ q.pending

/-- The newest held record (R75). -/
def Queue.newest (q : Queue) : Option CourseRecord :=
  match q.pending.getLast? with
  | some r => some r
  | none => q.beforePending

/-- The queue emptied (R77, R107). -/
def Queue.emptied (_ : Queue) : Queue := Queue.initial

/-! ### The acceptance checks (R78 to R83) -/

/-- Is a frame malformed (R80)? -/
def malformed (f : CourseFrame) : Bool := 8 < f.overrides.length || (bankOf f.bank).isNone

/-- Is a tag held, by the distance of R81? -/
def Queue.isDuplicate (q : Queue) (tag : Word) : Bool :=
  match q.newest with
  | none => false
  | some r => (r.tag - tag).toNat < q.held.length

/-- Checks 4 to 6 of R78. -/
def tagChecks (q : Queue) (tag : Word) : Option Verdict :=
  if q.isDuplicate tag then some .duplicate
  else if q.expected ≠ some tag then some .gap
  else if pendingMax ≤ q.pending.length then some .full
  else none

/-- The checks made when a course frame is handed over (R78). -/
def handOverCheck (s : State) (f : CourseFrame) : Option Verdict :=
  if s.node.state = .offline then some .state
  else if s.engine.commit.isSome then some .busy
  else if malformed f then some .malformed
  else tagChecks s.queue f.tag

/-- The checks made again when the expansion completes (R53, R78). -/
def completionCheck (s : State) (tag : Word) : Option Verdict :=
  if s.node.state = .offline then some .state
  else if s.engine.commit.isSome then some .busy
  else tagChecks s.queue tag

/-! ### The append (R49, R50, R84) -/

/-- A STAND plan's positions taken from the bar's plan in the predecessor (R49). -/
def fillStand (p prev : BarPlan) : BarPlan :=
  if p.source = .stand then { p with lead := prev.trail, trail := prev.trail } else p

/-- The candidate's record with its STAND plans filled from its predecessor, not yet planned. -/
def filledFrom (r prev : CourseRecord) : CourseRecord :=
  { r with plans := Vector.ofFn fun i => fillStand r.plans[i] prev.plans[i] }

/-- The LIMIT reports of an append, one for each clamped plan (R50, R167). -/
def reportLimits (s : State) (r : CourseRecord) : State :=
  { s with faults := { s.faults with
      bars := Vector.ofFn fun i =>
        if r.plans[i].clamped then reportTo s.faults.bars[i] .limit (some r.tag) s.tracker.angle
        else s.faults.bars[i] } }

/-- An ACCEPTED candidate is appended (R84), against the newest held record. -/
def appendRecord (s : State) (r prev : CourseRecord) : State :=
  let planned := planRecord s (filledFrom r prev) prev
  let appended := { s with queue := { s.queue with
    pending := s.queue.pending ++ [planned]
    expected := s.queue.expected.map (· + 1) } }
  reportLimits appended planned

/-! ### The due check (R106, R107) -/

/-- Does a period leave room for a course (R106)? -/
def dueCheckPasses (tMeas tMin margin : Nat) : Bool := tMeas == saturated || tMin * (256 + margin) ≤ tMeas * 256

/-- The due check on a record that has just become current, reading a T_meas (R106, R107). -/
def State.makeDueCheck (s : State) (tMeas : Nat) (r : CourseRecord) : State :=
  let pass := dueCheckPasses tMeas r.tMin s.node.margin
  let noted := { s with queue := { s.queue with dueCheck := some ⟨r.tag, tMeas, r.tMin, s.node.margin, pass⟩ } }
  if pass then noted else (noted.reportNode .unfit (some r.tag) 0).requestHold false

/-! ### Course boundaries (R86 to R93) -/

/-- The history with a record pushed to its newest end, the oldest dropped when it holds 8 (R74, R88). -/
def pushHistory (h : List CourseRecord) (r : CourseRecord) : List CourseRecord :=
  (if historyMax ≤ h.length then h.drop 1 else h) ++ [r]

/-- The queue stepped: the current record to the history, the pending head current (R87, R88). -/
def Queue.stepped (q : Queue) (head : CourseRecord) (rest : List CourseRecord) : Queue :=
  { q with
    history := match q.current with
      | some c => pushHistory q.history c
      | none => q.history
    current := some head
    pending := rest }

/-- A forward boundary that steps the queue: the step, the trims, and the due check when the node is RUNNING (R87, R88). -/
def State.stepQueue (s : State) (tMeas : Nat) (head : CourseRecord) (rest : List CourseRecord) : State :=
  let stepped := { s with queue := s.queue.stepped head rest, bars := activateTrims s.bars }
  if s.node.state = .running then stepped.makeDueCheck tMeas head else stepped

/-- A forward boundary with the pending list empty, outside OFFLINE and ARMED (R89). -/
def State.runDry (s : State) : State :=
  let code := if s.node.state = .running then NodeCode.starved else NodeCode.holdCrossing
  ({ s with bars := activateTrims s.bars }.reportNode code s.currentTag 0).requestHold true

/-- A forward course boundary (R86 to R89); `tMeas` is what a due check made here reads (R17). -/
def State.forwardBoundary (s : State) (tMeas : Nat) : State :=
  match s.node.state with
  | .offline => s
  | .armed =>
    match s.queue.pending with
    | [] => s
    | head :: rest => { s with node := s.node.enter .running }.stepQueue tMeas head rest
  | .running | .hold | .catchup =>
    match s.queue.pending with
    | [] => s.runDry
    | head :: rest => s.stepQueue tMeas head rest

/-- The pending list and the expected tag once a retrace has made room (R91). -/
def Queue.roomForRetrace (q : Queue) : Queue :=
  if pendingMax ≤ q.pending.length then
    { q with pending := q.pending.dropLast, expected := q.pending.getLast?.map CourseRecord.tag }
  else q

/-- The queue retraced onto the newest record of its history (R90). -/
def Queue.retraced (q : Queue) (newest : CourseRecord) : Queue :=
  let r := q.roomForRetrace
  { r with history := q.history.dropLast, current := some newest, pending := q.current.toList ++ r.pending }

/-- A reverse course boundary (R86, R90 to R92). -/
def State.reverseBoundary (s : State) : State :=
  match s.node.state with
  | .offline | .armed => s
  | .running | .hold | .catchup =>
    match s.queue.history.getLast? with
    | none => (s.reportNode .retraceExhausted s.currentTag 1439).requestHold true
    | some newest => { s with queue := s.queue.retraced newest }

/-- A course-boundary event (R3, R86). -/
def State.boundary (s : State) (forward : Bool) (tMeas : Nat) : State :=
  if forward then s.forwardBoundary tMeas else s.reverseBoundary

end Sys2Proof.Machine
end

