-- ==== Sys2Proof/Machine/StoreAccess.lean ====
section
/-!
DEFINITION. The store arbiter (R23), and what a completed word access delivers to the class engine and to the service path
(R25, R26, R33, R66, R68).
-/

namespace Sys2Proof.Machine

/-! ### The arbiter (R23, R31) -/

/-- Has a client a request waiting? -/
def Store.waits (st : Store) : Client → Bool
  | .expander => st.waitExpander
  | .service => st.waitService
  | .engine => st.waitEngine

def Store.setWait (st : Store) (c : Client) (w : Bool) : Store :=
  match c with
  | .expander => { st with waitExpander := w }
  | .service => { st with waitService := w }
  | .engine => { st with waitEngine := w }

/-- The lap code of a bar in its row word: bits 15..8 for the even bar of the pair, bits 7..0 for the odd (R39, R189). -/
def lapCode (w : Word) (n : BarIx) : Byte := if n.val % 2 = 0 then hiByte w else loByte w

/-- The address of a fetch of an expansion (R37, R40, R48). -/
def Expansion.fetchAddr (j : Expansion) : Fetch → Nat
  | .rowWord k => j.rowBase + k.val
  | .lapEntry n => lapAddr j.lapSets[n] (lapCode j.rowWord n)

/-- The 22 bits a LOAD writes for a data word: the diagnostic check value while the mode is on, else computed check bits
(R20, R30). -/
def Store.loadBits (st : Store) (d : Word) : Stored := if st.diagMode then storedWith st.diagValue d else storedOf d

/-- The access a client's request asks for: the expander's next fetch, the service path's next staged word or word to be
read, the engine's next ramp entry (R33, R35, R48, R66). -/
def State.nextAccess (s : State) : Client → Option Access
  | .expander => s.expander.job.bind fun j => j.todo.head?.map fun f => ⟨.expander, j.fetchAddr f, none, false⟩
  | .service =>
    match s.store.staging with
    | (a, d) :: _ => some ⟨.service, a, some (s.store.loadBits d), false⟩
    | [] => s.store.read.map fun r => ⟨.service, r.start + r.words.length, none, false⟩
  | .engine => s.engine.commit.map fun c => ⟨.engine, rampAddr c.cls c.fetched.length, none, false⟩

/-- The order of priority (R23). -/
def priority : List Client := [.expander, .service, .engine]

/-- The waiting request the arbiter grants (R23). -/
def State.candidate (s : State) : Option Client :=
  priority.find? fun c => s.store.waits c && (s.nextAccess c).isSome

/-- The arbiter grants a waiting request when the store is free; the power-on clear holds the store (R23, R31). -/
def State.grant (s : State) : State :=
  if s.store.access.isSome ∨ s.store.state = .clearing then s
  else
    match s.candidate with
    | none => s
    | some c => { s with store := { s.store.setWait c false with access := s.nextAccess c } }

/-- A client presents its next request; a free store grants it at once (R23). -/
def State.present (s : State) (c : Client) : State := { s with store := s.store.setWait c true }.grant

/-! ### The class engine (R25, R58, R64, R66, R68) -/

/-- One class's record replaced. -/
def Engine.setClass (e : Engine) (c : ClassIx) (k : DriveClass) : Engine := { e with classes := e.classes.set c k }

/-- A class whose parameter or ramp word has changed: VALID becomes STALE (R56, R58, R64). -/
def DriveClass.outdated (k : DriveClass) : DriveClass := if k.state = .valid then { k with state := .stale } else k

/-- The class engine is told of a write by a LOAD (R33, R58). -/
def Engine.toldOfWrite (e : Engine) (addr : Nat) : Engine :=
  match rampClassOf addr with
  | none => e
  | some c => e.setClass c e.classes[c].outdated

/-- The commit fails at an uncorrectable fetch (R68). -/
def Engine.commitFailed (e : Engine) (c : Commit) : Engine :=
  { e.setClass c.cls { e.classes[c.cls] with state := c.prior, outcome := .eccFail } with commit := none }

/-- A ramp entry has been fetched (R59, R66): with the last one the computation stage begins. -/
def Commit.fetchedEntry (c : Commit) (d : Word) : Commit :=
  let fetched := c.fetched ++ [clampEntry d.toNat]
  { c with
    fetched := fetched
    raised := c.raised || d.toNat < 20
    stage := if c.length ≤ fetched.length then .computing 0 else .fetching }

/-- A fetch's outcome delivered to the class engine (R25, R66). Outside the fetch stage no fetch of the engine is in
progress, and nothing is delivered. -/
def State.deliverEngine (s : State) (o : ReadOutcome) : State :=
  match s.engine.commit with
  | none => s
  | some c =>
    if c.stage ≠ .fetching then s
    else if o.severity = some .uncorrectable then { s with engine := s.engine.commitFailed c }
    else
      let c' := c.fetchedEntry o.data
      let s' := { s with engine := { s.engine with commit := some c' } }
      if c'.stage = .fetching then { s' with store := s'.store.setWait .engine true } else s'

/-! ### The service path (R26, R33) -/

/-- A word read for a READ (R26). -/
def ReadJob.word (r : ReadJob) (o : ReadOutcome) : ReadJob :=
  { r with
    words := r.words ++ [o.data]
    firstBad := if r.firstBad.isNone ∧ o.severity = some .uncorrectable then some r.words.length else r.firstBad }

/-- The reply of a READ whose words have all been read (R26, R186). -/
def ReadJob.reply (r : ReadJob) : Reply :=
  { result := if r.firstBad.isSome then .eccFail else .done, bad := r.firstBad, data := some r.words }

/-- A word delivered to the READ in progress (R26, R35). -/
def State.deliverRead (s : State) (o : ReadOutcome) : State :=
  match s.store.read with
  | none => s
  | some r =>
    let r' := r.word o
    if r'.words.length < r'.count then
      { s with store := { s.store with read := some r' }.setWait .service true }
    else { s with store := { s.store with read := none } }.answer r'.ticket r'.form r'.op r'.env r'.reply

/-- A staged word of a LOAD has been written (R33, R34). -/
def State.wroteStaged (s : State) (addr : Nat) : State :=
  let rest := s.store.staging.drop 1
  let st := { s.store with staging := rest }
  { s with
    store := if rest.isEmpty then st else st.setWait .service true
    engine := s.engine.toldOfWrite addr }

/-- STORE_CLEAR_DONE (R31): the power-on clear has written its last word; the store is READY and the arbiter free.
While the store is READY the event cannot occur (entry 1). -/
def execStoreClearDone (s : State) : Host.Outcome State Fault Refusal :=
  .next (
    if s.store.state = .clearing then
      { s with store := { s.store with words := [], state := .ready, clearLeft := 0 } }.grant
    else s)

/-! ### The computation stage and the swap (R67) -/

/-- A class after the swap of its commit (R67). -/
def DriveClass.swapped (k : DriveClass) (c : Commit) : DriveClass :=
  { k with
    state := .valid
    ramp := some c.fetched
    table := some (moveTable c.fetched c.spn)
    outcome := if c.raised then .clamped else .done }

/-- The swap (R67). -/
def Engine.swapped (e : Engine) (c : Commit) : Engine :=
  { e.setClass c.cls (e.classes[c.cls].swapped c) with commit := none }

/-- COMMIT_SWAP (R67): the computation stage completes, the swap is made and the pending records are planned again. With
no commit in its computation stage the event cannot occur (entry 1). -/
def execCommitSwap (s : State) : Host.Outcome State Fault Refusal :=
  match s.engine.commit with
  | none => .next s
  | some c =>
    match c.stage with
    | .fetching => .next s
    | .computing _ => .next { s with engine := s.engine.swapped c }.rePlan

end Sys2Proof.Machine
end

