-- ==== Sys2Proof/Machine/Expansion.lean ====
section
/-!
DEFINITION. The course expander (chapter 3): sources, fetches, the candidate, its completion, and the hand-over of course
frames to the queue (R46, R53, R78). The completion of a word access, which delivers to all three clients (R23).
-/

namespace Sys2Proof.Machine

/-! ### Plans (R45, R47, R50, R189) -/

/-- An EXCLUDED plan (R45). -/
def excludedPlan : BarPlan := { source := .excluded, lead := 0, trail := 0, clamped := false, underlap := 0, overlap := 0 }

/-- A plan with its positions clamped to the travel limit (R50). -/
def clampedPlan (source : Source) (lead trail limit : Nat) : BarPlan :=
  { source := source, lead := min lead limit, trail := min trail limit, clamped := limit < lead || limit < trail,
    underlap := 0, overlap := 0 }

/-- A STAND plan before its append: its positions are still to be taken from the predecessor (R49). -/
def standPlan : BarPlan := { excludedPlan with source := .stand }

/-- The lap entry's fields (R40, R189). -/
def entryLead (w : Word) : Nat := (w.extractLsb' 0 6).toNat
def entryTrail (w : Word) : Nat := (w.extractLsb' 6 6).toNat
def entryStand (w : Word) : Bool := w.getLsbD 15

/-- The plan a lap entry gives (R47, R49, R50). -/
def entryPlan (w : Word) (limit : Nat) : BarPlan :=
  if entryStand w then standPlan else clampedPlan .table (entryLead w) (entryTrail w) limit

/-- The override of a bar: the last in the frame that names it (R43). -/
def overrideFor (address : Nat) (os : List Override) (n : BarIx) : Option Override :=
  (os.filter fun o => localBar address o.bar == some n).getLast?

/-- Does a bar need a table look-up (R47)? -/
def needsLookup (s : State) (f : CourseFrame) (n : BarIx) : Bool :=
  s.bars[n].mode == .motion && (overrideFor s.ring.address f.overrides n).isNone

/-- The plan a bar has before any fetch (R47); a bar that needs a look-up has none yet. -/
def firstPlan (s : State) (f : CourseFrame) (n : BarIx) : BarPlan :=
  if s.bars[n].mode = .motion then
    match overrideFor s.ring.address f.overrides n with
    | some o => clampedPlan .override o.lead.toNat o.trail.toNat s.bars[n].limit
    | none => excludedPlan
  else excludedPlan

/-- The even and the odd bar of a row word (R39). -/
def evenBar (k : Fin 8) : BarIx := ⟨2 * k.val, by omega⟩
def oddBar (k : Fin 8) : BarIx := ⟨2 * k.val + 1, by omega⟩

/-- The fetches of an expansion, in order (R48). -/
def fetchPlan (needs : BarIx → Bool) : List Fetch :=
  (List.finRange 8).flatMap fun k =>
    if needs (evenBar k) || needs (oddBar k) then
      .rowWord k :: ([evenBar k, oddBar k].filter needs).map .lapEntry
    else []

/-- The address of row word 0 of a course (R37). -/
def Expander.rowBase (e : Expander) (bank : Bank) (row : Word) : Nat :=
  match bank with
  | .a => 8 * (row.toNat % e.rowCountA)
  | .b => bankBBase + 8 * (row.toNat % e.rowCountB)

/-- What an expansion takes at its beginning (R46). -/
def expansionOf (s : State) (ticket : Nat) (f : CourseFrame) : Expansion :=
  let bank := (bankOf f.bank).getD .a
  { frame := f
    bank := bank
    ticket := ticket
    rowBase := s.expander.rowBase bank f.row
    lapSets := Vector.ofFn fun i => s.bars[i].lapSet
    limits := Vector.ofFn fun i => s.bars[i].limit
    plans := Vector.ofFn fun i => firstPlan s f i
    todo := fetchPlan (needsLookup s f)
    rowWord := 0
    corrected := false
    ecc := false }

/-- An expansion begins and presents its first fetch (R46, R48). -/
def State.beginExpansion (s : State) (ticket : Nat) (f : CourseFrame) : State :=
  let j := expansionOf s ticket f
  let s' := { s with expander := { s.expander with job := some j } }
  if j.todo.isEmpty then s' else s'.present .expander

/-- The expansion after one completed fetch (R24, R47, R51, R52). -/
def Expansion.fetched (j : Expansion) (o : ReadOutcome) : Expansion :=
  if o.severity = some .uncorrectable then { j with ecc := true, todo := [] }
  else
    let j' := { j with corrected := j.corrected || o.severity == some .correctable, todo := j.todo.drop 1 }
    match j.todo with
    | .rowWord _ :: _ => { j' with rowWord := o.data }
    | .lapEntry n :: _ => { j' with plans := j'.plans.set n (entryPlan o.data j'.limits[n]) }
    | [] => j'

/-- A fetch's outcome delivered to the expander, which presents its next fetch if it has one (R24, R48). -/
def State.deliverExpander (s : State) (o : ReadOutcome) : State :=
  match s.expander.job with
  | none => s
  | some j =>
    let j' := j.fetched o
    let s' := { s with expander := { s.expander with job := some j' } }
    if j'.todo.isEmpty then s' else { s' with store := s'.store.setWait .expander true }

/-! ### Hand-over and completion (R53, R78, R84) -/

/-- The candidate's record before its append (R44). -/
def Expansion.record (j : Expansion) : CourseRecord :=
  { tag := j.frame.tag, row := j.frame.row, bank := j.bank, corrected := j.corrected, plans := j.plans, tMin := 0,
    ceiling := 0 }

/-- A record without positions, which stands for the predecessor where none is held (entry 22). -/
def blankRecord : CourseRecord :=
  { tag := 0, row := 0, bank := .a, corrected := false, plans := Vector.replicate 16 excludedPlan, tMin := 0,
    ceiling := maxSpeed }

/-- A course frame is handed to the queue (R78): a final verdict, or an expansion. -/
def State.handOver (s : State) (ticket : Nat) (f : CourseFrame) : State :=
  match handOverCheck s f with
  | some v => s.answerCourse ticket f v
  | none => s.beginExpansion ticket f

/-- The course frames that waited are handed over in order, until one begins an expansion; service requests held meanwhile
are taken after them, also where they arrived before one (MODEL'S CHOICE, entry 17). -/
def handOverWaiting : List (Nat × CourseFrame) → State → State
  | [], s => { s with ring := { s.ring with waiting := [] } }
  | (ticket, f) :: rest, s =>
    let s' := s.handOver ticket f
    if s'.expander.job.isSome then { s' with ring := { s'.ring with waiting := rest } } else handOverWaiting rest s'

/-- Must a course frame wait? An expansion meets neither another expansion (R46) nor the writes of a LOAD (R34): the frame
waits for the one in progress and for the last staged word (entry 17). -/
def State.expansionWaits (s : State) : Bool := s.expander.job.isSome || !s.store.staging.isEmpty

/-- Once an expansion need not wait any longer, the course frames that waited are handed over. -/
def State.releaseWaiting (s : State) : State := if s.expansionWaits then s else handOverWaiting s.ring.waiting s

/-- The verdict at the completion of an expansion (R53). -/
def completionVerdict (s : State) (j : Expansion) : Verdict :=
  match completionCheck s j.frame.tag with
  | some v => v
  | none => if j.ecc then .ecc else .accepted

/-- The queue takes the completed expansion: an ACCEPTED candidate is appended (R53, R84). -/
def State.takeCandidate (s : State) (j : Expansion) (v : Verdict) : State :=
  if v = .accepted then appendRecord s j.record (s.queue.newest.getD blankRecord) else s

/-- EXPANSION_COMPLETE (R53): the verdict is given, an ACCEPTED candidate is appended, the status slot is written and the
frame is sent. Without an expansion whose fetches are made the event cannot occur (entry 1). -/
def execExpansionComplete (s : State) : Host.Outcome State Fault Refusal :=
  match s.expander.job with
  | none => .next s
  | some j =>
    if j.todo.isEmpty then
      let idle := { s with expander := { s.expander with job := none } }
      let v := completionVerdict idle j
      .next ((idle.takeCandidate j v).answerCourse j.ticket j.frame v).releaseWaiting
    else .next s

/-! ### The completion of a word access (R23 to R26, R33) -/

/-- The kind of capture a client's read makes (R24 to R26). -/
def captureKindOf : Client → CaptureKind
  | .expander => .expansion
  | .service => .read
  | .engine => .commit

/-- A read's outcome delivered to its client (R24 to R26). -/
def State.deliver (s : State) (c : Client) (o : ReadOutcome) : State :=
  match c with
  | .expander => s.deliverExpander o
  | .service => s.deliverRead o
  | .engine => s.deliverEngine o

/-- A completed access takes its effect: a write replaces the word, and the last of a LOAD's lets the course frames that waited
begin (R34); a read is decoded, reported and delivered. An access whose client a pin reset has ended delivers and reports
nothing (R36; entry 18). -/
def State.finishAccess (s : State) (a : Access) : State :=
  match a.write with
  | some w =>
    let written := { s with store := { s.store with words := s.store.words.write a.addr w } }
    if a.orphan then written else (written.wroteStaged a.addr).releaseWaiting
  | none =>
    if a.orphan then s
    else
      let o := readOutcome (s.store.words.read a.addr)
      { s with store := s.store.report (captureKindOf a.client) a.addr o }.deliver a.client o

/-- WORD_ACCESS_COMPLETE (R23): the access in progress completes, its outcome goes to its client, and the arbiter grants
the next waiting request. With no access in progress the event cannot occur (entry 1). -/
def execWordAccessComplete (s : State) : Host.Outcome State Fault Refusal :=
  match s.store.access with
  | none => .next s
  | some a =>
    if a.addr < storeSize then .next ({ s with store := { s.store with access := none } }.finishAccess a).grant
    else .fault (.storeAddress a.addr)

end Sys2Proof.Machine
end

