-- ==== Sys2Proof/Machine/NodeControl.lean ====
section
/-!
DEFINITION. The operations that start and stop the node (chapter 8): ARM, DISARM, RESUME, RESTART; COMMIT_CLASS (R65).
-/

namespace Sys2Proof.Machine

/-! ### ARM (R76, R77, R139 to R141) -/

/-- Is some MOTION bar such that …? -/
def anyMotionBar (s : State) (p : Bar → Bool) : Bool := anyBar s.bars fun b => b.mode == .motion && p b

/-- ARM's readiness conditions, the first that fails (R140). -/
def notReadyReason (s : State) : Option Reason :=
  if s.tracker.angleValid = false then some .angle
  else if anyMotionBar s (fun b => (s.classOf b).state != .valid) then some .cls
  else if anyMotionBar s (fun b => !b.referenced) then some .unreferenced
  else if anyMotionBar s (fun b => b.pos % (s.classOf b).spn != 0) then some .offNeedle
  else if s.node.windowsOk = false then some .windows
  else if s.store.diagMode then some .diag
  else none

/-- A bar's plan in the origin record (R76). -/
def originPlan (s : State) (b : Bar) : BarPlan :=
  if b.mode = .motion then
    let needle := b.pos / (s.classOf b).spn
    { source := .stand, lead := needle, trail := needle, clamped := false, underlap := 0, overlap := 0 }
  else excludedPlan

/-- The origin record (R76). -/
def originRecord (s : State) (firstTag : Word) : CourseRecord :=
  { tag := firstTag - 1, row := 0, bank := .a, corrected := false, plans := Vector.ofFn fun i => originPlan s s.bars[i],
    tMin := 0, ceiling := maxSpeed }

/-- The effects of an ARM taken with DONE (R141). -/
def State.armed (s : State) (firstTag : Word) : State :=
  { s with
    queue := { Queue.initial with history := [originRecord s firstTag], expected := some firstTag }
    bars := activateTrims s.bars
    node := s.node.enter .armed }

/-- ARM (R139). -/
def opArm (firstTag : Word) (s : State) : State × Reply :=
  if s.node.state ≠ .offline then (s, .only .state)
  else if s.store.state = .clearing then (s, .only .busy)
  else if anyMotionBar s (fun b => b.motion.isMoving) then (s, .only .busy)
  else
    match notReadyReason s with
    | some r => (s, .notReady r)
    | none => (s.armed firstTag, .only .done)

/-! ### DISARM and RESTART (R149, R150) -/

/-- The node controller on entering OFFLINE by DISARM or RESTART (R149, R150). -/
def Node.disarmed (n : Node) : Node := { n.enter .offline with desync := false, catchup := noTargets }

/-- DISARM (R149). -/
def opDisarm (s : State) : State × Reply :=
  ({ s with queue := s.queue.emptied, bars := activateTrims s.bars, node := s.node.disarmed }, .only .done)

/-- RESTART's effects (R150): the fault records, the capture record and the corrected count are emptied as well. -/
def State.restarted (s : State) : State :=
  { s with
    queue := s.queue.emptied
    bars := activateTrims s.bars
    node := s.node.disarmed
    faults := .initial
    store := { s.store with capture := none, corrected := 0 } }

/-- RESTART (R150). -/
def opRestart (s : State) : State × Reply :=
  if anyBar s.bars Bar.busy then (s, .only .busy)
  else if s.engine.commit.isSome then (s, .only .busy)
  else (s.restarted, .only .done)

/-! ### RESUME and the catch-up (R143 to R146) -/

/-- The needle position a bar should have at a standing angle (R144): none when no record is held to read it from. -/
def requiredNeedle (s : State) (n : BarIx) : Option Nat :=
  let trim := s.bars[n].activeTrim
  match s.queue.current, s.node.edgeAngle trim .underlapStart, s.node.edgeAngle trim .overlapStart with
  | some cur, some u, some o =>
    let a := s.tracker.angle
    if a < u then
      match s.queue.history.getLast? with
      | some r => some r.plans[n].trail
      | none => some cur.plans[n].lead
    else if a < o then some cur.plans[n].lead
    else some cur.plans[n].trail
  | _, _, _ => none

/-- A bar's catch-up target (R144): a MOTION bar's required position in steps. -/
def catchupTarget (s : State) (n : BarIx) : Option Nat :=
  if s.bars[n].mode = .motion then (requiredNeedle s n).map (· * (s.classOf s.bars[n]).spn) else none

/-- Each MOTION bar's unit is given its catch-up target (R118, R145). -/
def giveCatchup (s : State) (targets : Vector (Option Nat) 16) : Vector Bar 16 :=
  Vector.ofFn fun i =>
    match targets[i] with
    | some t => s.bars[i].giveTarget (s.rampOf s.bars[i]) t
    | none => s.bars[i]

/-- The catch-up begins (R145), and its completion is evaluated (R146). -/
def State.beginCatchup (s : State) : State :=
  let targets := Vector.ofFn (catchupTarget s)
  { s with node := { s.node.enter .catchup with catchup := targets }, bars := giveCatchup s targets }.evaluateCatchup

/-- RESUME (R143). -/
def opResume (s : State) : State × Reply :=
  if s.node.state ≠ .hold then (s, .only .state)
  else if s.node.desync then (s, .notReady .desync)
  else if s.tracker.dir ≠ .stopped then (s, .notReady .shaft)
  else (s.beginCatchup, .only .started)

/-! ### COMMIT_CLASS (R65) -/

/-- A commit begins and presents its first fetch (R65, R66). -/
def State.beginCommit (s : State) (c : ClassIx) : State :=
  let k := s.engine.classes[c]
  let job : Commit := { cls := c, prior := k.state, spn := k.spn, length := k.length, fetched := [], raised := false,
                        stage := .fetching, shadow := [] }
  { s with engine := { s.engine.setClass c { k with state := .computing } with commit := some job } }.present .engine

/-- COMMIT_CLASS (R65). -/
def opCommitClass (cls : Byte) (s : State) : State × Reply :=
  match classIxOf cls with
  | none => (s, .only .range)
  | some c =>
    if s.node.state ≠ .offline ∧ s.node.state ≠ .armed then (s, .only .state)
    else if s.engine.commit.isSome then (s, .only .busy)
    else if s.store.state = .clearing then (s, .only .busy)
    else (s.beginCommit c, .only .started)

end Sys2Proof.Machine
end

