-- ==== Sys2Proof/Machine/Parameters.lean ====
section
/-!
DEFINITION. SET_PARAM and GET_PARAM of every parameter (R181, 12.5), each SET_PARAM with the checks of its own rule in
their order. An operation answers the state it leaves and the reply.
-/

namespace Sys2Proof.Machine

/-- A refusal, or an acceptance that changes nothing. -/
def State.reply (s : State) (r : Result) : State × Reply := (s, .only r)

/-! ### Node parameters -/

/-- SET_PARAM of a bank's row count (R38). -/
def opSetRowCount (bank : Bank) (v : Word) (s : State) : State × Reply :=
  match inRange 1 4096 v with
  | none => s.reply .range
  | some n =>
    match bank with
    | .a => { s with expander := { s.expander with rowCountA := n } }.reply .done
    | .b => { s with expander := { s.expander with rowCountB := n } }.reply .done

/-- SET_PARAM of the margin (R105). -/
def opSetMargin (v : Word) (s : State) : State × Reply :=
  match inRange 0 64 v with
  | none => s.reply .range
  | some n => { s with node := { s.node with margin := n } }.reply .done

/-- SET_PARAM of the standstill timeout (R15): a running one-shot keeps its expiry. -/
def opSetStandstillTimeout (v : Word) (s : State) : State × Reply :=
  match inRange 2 255 v with
  | none => s.reply .range
  | some n => { s with tracker := { s.tracker with timeout := n } }.reply .done

/-- The range of a window parameter (R120). -/
def windowRange : WindowParam → Nat × Nat
  | .us | .os => (0, 1439)
  | .ul | .ol => (16, 720)

def Node.setWindow (n : Node) (w : WindowParam) (v : Nat) : Node :=
  match w with
  | .us => { n with us := v }
  | .ul => { n with ul := v }
  | .os => { n with os := v }
  | .ol => { n with ol := v }

/-- SET_PARAM of a window parameter (R120). -/
def opSetWindow (w : WindowParam) (v : Word) (s : State) : State × Reply :=
  match inRange (windowRange w).1 (windowRange w).2 v with
  | none => s.reply .range
  | some n =>
    if s.node.state ≠ .offline then s.reply .state
    else { s with node := s.node.setWindow w n }.reply .done

/-- SET_PARAM of the guard enable (R129). -/
def opSetGuardEnable (v : Word) (s : State) : State × Reply :=
  match flagOf v with
  | none => s.reply .range
  | some true => { s with node := { s.node with guardEnable := true } }.reply .done
  | some false => if s.node.guardEnable then s.reply .state else s.reply .done

/-- SET_PARAM of diagnostic check mode (R30): on in OFFLINE, off in every state. -/
def opSetDiagMode (v : Word) (s : State) : State × Reply :=
  match flagOf v with
  | none => s.reply .range
  | some false => { s with store := { s.store with diagMode := false } }.reply .done
  | some true =>
    if s.node.state ≠ .offline then s.reply .state
    else { s with store := { s.store with diagMode := true } }.reply .done

/-- SET_PARAM of the diagnostic check value (R30). -/
def opSetDiagValue (v : Word) (s : State) : State × Reply :=
  match inRange 0 63 v with
  | none => s.reply .range
  | some n => { s with store := { s.store with diagValue := BitVec.ofNat 6 n } }.reply .done

/-! ### Class parameters (R56) -/

/-- Is a bar assigned to a class MOVING or SEARCHING? -/
def classBusy (s : State) (c : ClassIx) : Bool := anyBar s.bars fun b => b.cls == c && b.busy

/-- Would a referenced bar of a class stand above its travel limit at a number of steps per needle? -/
def spnTooLow (s : State) (c : ClassIx) (spn : Nat) : Bool :=
  anyBar s.bars fun b => b.cls == c && b.referenced && b.limit * spn < b.pos

/-- The checks a SET_PARAM of spn and of L share, after the ranges (R56). -/
def classRefusal (s : State) (c : ClassIx) : Option Result :=
  if s.node.state ≠ .offline then some .state
  else if s.engine.classes[c].state = .computing then some .busy
  else if classBusy s c then some .busy
  else none

/-- SET_PARAM of a class's steps per needle (R56). -/
def opSetSpn (cls : Byte) (v : Word) (s : State) : State × Reply :=
  match classIxOf cls, inRange 4 64 v with
  | some c, some n =>
    match classRefusal s c with
    | some r => s.reply r
    | none =>
      if spnTooLow s c n then s.reply .range
      else { s with engine := s.engine.setClass c { s.engine.classes[c].outdated with spn := n } }.reply .done
  | _, _ => s.reply .range

/-- SET_PARAM of a class's ramp length (R56). -/
def opSetRampLength (cls : Byte) (v : Word) (s : State) : State × Reply :=
  match classIxOf cls, inRange 1 32 v with
  | some c, some n =>
    match classRefusal s c with
    | some r => s.reply r
    | none => { s with engine := s.engine.setClass c { s.engine.classes[c].outdated with length := n } }.reply .done
  | _, _ => s.reply .range

/-! ### Bar parameters -/

/-- The mode taken by a bar (R109, R110, R112): entering PARKED loses the reference. -/
def Bar.enterMode (b : Bar) (m : Mode) : Bar :=
  if m = b.mode then b
  else
    match m with
    | .parked => { b with mode := .parked, enable := false, referenced := false, pos := 0, target := 0 }
    | .jog => { b with mode := .jog, enable := true }
    | .motion => { b with mode := .motion, enable := true }

/-- SET_PARAM of a bar's mode (R109). -/
def opSetMode (bar : Byte) (v : Word) (s : State) : State × Reply :=
  match barOf bar, modeOf v with
  | some n, some m =>
    if s.node.state ≠ .offline then s.reply .state
    else if s.bars[n].busy then s.reply .busy
    else (s.setBar n (s.bars[n].enterMode m)).reply .done
  | _, _ => s.reply .range

/-- SET_PARAM of a bar's class (R57). -/
def opSetClass (bar : Byte) (v : Word) (s : State) : State × Reply :=
  match barOf bar, quarterOf v with
  | some n, some c =>
    let b := s.bars[n]
    if s.node.state ≠ .offline then s.reply .state
    else if b.busy then s.reply .busy
    else if b.referenced ∧ b.limit * s.engine.classes[c].spn < b.pos then s.reply .range
    else (s.setBar n { b with cls := c }).reply .done
  | _, _ => s.reply .range

/-- SET_PARAM of a bar's lap set (R41). -/
def opSetLapSet (bar : Byte) (v : Word) (s : State) : State × Reply :=
  match barOf bar, quarterOf v with
  | some n, some l =>
    if s.node.state ≠ .offline then s.reply .state
    else (s.setBar n { s.bars[n] with lapSet := l }).reply .done
  | _, _ => s.reply .range

/-- SET_PARAM of a bar's travel limit (R111). -/
def opSetTravelLimit (bar : Byte) (v : Word) (s : State) : State × Reply :=
  match barOf bar, inRange 0 63 v with
  | some n, some l =>
    let b := s.bars[n]
    if s.node.state ≠ .offline then s.reply .state
    else if b.busy then s.reply .busy
    else if b.referenced ∧ l * (s.classOf b).spn < b.pos then s.reply .range
    else (s.setBar n { b with limit := l }).reply .done
  | _, _ => s.reply .range

/-- SET_PARAM of a bar's trim (R121): the pending trim, and in OFFLINE the active trim too. -/
def opSetTrim (bar : Byte) (v : Word) (s : State) : State × Reply :=
  match barOf bar, trimOf v with
  | some n, some t =>
    let b := s.bars[n]
    let active := if s.node.state = .offline then t else b.activeTrim
    (s.setBar n { b with pendingTrim := t, activeTrim := active }).reply .done
  | _, _ => s.reply .range

/-- SET_PARAM of a bar's home position (R156). -/
def opSetHomePosition (bar : Byte) (v : Word) (s : State) : State × Reply :=
  match barOf bar, inRange 0 4032 v with
  | some n, some p => (s.setBar n { s.bars[n] with homePos := p }).reply .done
  | _, _ => s.reply .range

/-- SET_PARAM of a bar's home polarity (R156). -/
def opSetHomePolarity (bar : Byte) (v : Word) (s : State) : State × Reply :=
  match barOf bar, polarityOf v with
  | some n, some p => (s.setBar n { s.bars[n] with homePol := p }).reply .done
  | _, _ => s.reply .range

/-- SET_PARAM of an identity that names no parameter (R181). -/
def opUnknownParameter (s : State) : State × Reply := s.reply .range

/-! ### GET_PARAM (R181) -/

/-- A flag as a parameter value. -/
def flagWord (b : Bool) : Word := if b then 1 else 0

/-- The value of a node parameter (12.5). -/
def nodeParam (s : State) (identity : Nat) : Option Word :=
  match identity with
  | 1 => some (BitVec.ofNat 16 s.expander.rowCountA)
  | 2 => some (BitVec.ofNat 16 s.expander.rowCountB)
  | 3 => some (BitVec.ofNat 16 s.node.margin)
  | 4 => some (BitVec.ofNat 16 s.tracker.timeout)
  | 5 => some (BitVec.ofNat 16 s.node.us)
  | 6 => some (BitVec.ofNat 16 s.node.ul)
  | 7 => some (BitVec.ofNat 16 s.node.os)
  | 8 => some (BitVec.ofNat 16 s.node.ol)
  | 9 => some (flagWord s.node.guardEnable)
  | 10 => some (flagWord s.store.diagMode)
  | 11 => some (s.store.diagValue.setWidth 16)
  | _ => none

/-- The value of a class parameter (12.5). -/
def classParam (k : DriveClass) (identity : Nat) : Option Word :=
  match identity with
  | 16 => some (BitVec.ofNat 16 k.spn)
  | 17 => some (BitVec.ofNat 16 k.length)
  | _ => none

/-- The value of a bar parameter (12.5); a trim reads as the active trim (R121). -/
def barParam (b : Bar) (identity : Nat) : Option Word :=
  match identity with
  | 32 => some (BitVec.ofNat 16 (modeNumber b.mode))
  | 33 => some (BitVec.ofNat 16 b.cls.val)
  | 34 => some (BitVec.ofNat 16 b.lapSet.val)
  | 35 => some (BitVec.ofNat 16 b.limit)
  | 36 => some (wordOfInt b.activeTrim)
  | 37 => some (BitVec.ofNat 16 b.homePos)
  | 38 => some (BitVec.ofNat 16 (polarityNumber b.homePol))
  | _ => none

/-- The value of a parameter by its identity and index (R181); the index of a node parameter is not read. -/
def paramValue (s : State) (identity index : Byte) : Option Word :=
  (nodeParam s identity.toNat).or
    (((classIxOf index).bind fun c => classParam s.engine.classes[c] identity.toNat).or
      ((barOf index).bind fun n => barParam s.bars[n] identity.toNat))

/-- GET_PARAM (R181). -/
def opGetParam (identity index : Byte) (s : State) : State × Reply :=
  match paramValue s identity index with
  | none => s.reply .range
  | some v => (s, { result := .done, value := some v })

end Sys2Proof.Machine
end

