-- ==== Sys2Proof/Machine/Reports.lean ====
section
/-!
DEFINITION. What the machine controller reads and clears: GET_FAULTS and CLEAR_FAULT (chapter 10, R187), GET_STATUS
(R182, R188).
-/

namespace Sys2Proof.Machine

/-- A number as a data word. -/
def word (n : Nat) : Word := BitVec.ofNat 16 n

/-- A tag that may be absent, 0 then (R187, R188). -/
def tagWord (t : Option Word) : Word := t.getD 0

/-! ### GET_FAULTS (R168, R187) -/

def NodeCode.number : NodeCode → Nat
  | .starved => 1
  | .unfit => 2
  | .indexSlip => 3
  | .indexMissing => 4
  | .retraceExhausted => 5
  | .holdCrossing => 6
  | .catchupDisturbed => 7
  | .ringLost => 8

def BarCode.number : BarCode → Nat
  | .guard => 1
  | .late => 2
  | .limit => 3
  | .noHome => 4

def CaptureKind.number : CaptureKind → Nat
  | .expansion => 1
  | .read => 2
  | .commit => 3

/-- Words 0 to 2 of the node form: the node fault record. -/
def nodeFaultWords (r : Option (FaultCapture NodeCode)) : List Word :=
  match r with
  | none => [0, 0, 0]
  | some c => [word (c.code.number + bitAt c.repeated 8 + bitAt c.tag.isSome 9), tagWord c.tag, word c.angle]

/-- Words 3 to 4 of the node form: the ECC capture record. -/
def captureWords (r : Option Capture) : List Word :=
  match r with
  | none => [0, 0]
  | some c =>
    [word (c.kind.number * 2 ^ 14 + bitAt (c.severity == .uncorrectable) 13 + bitAt c.repeated 12
        + c.addr / 65536 % 2 * 2 ^ 8 + bitAt c.parity 5 + c.syndrome.toNat),
      word c.addr]

/-- The two words of one bar's record in the bar form. -/
def barFaultWords (r : Option (FaultCapture BarCode)) : List Word :=
  match r with
  | none => [0, 0]
  | some c =>
    [word (c.code.number * 2 ^ 13 + bitAt c.repeated 12 + bitAt c.tag.isSome 11 + c.angle), tagWord c.tag]

/-- The node form: 6 words. -/
def nodeForm (s : State) : List Word :=
  nodeFaultWords s.faults.node ++ captureWords s.store.capture ++ [word s.store.corrected]

/-- The bar form: 32 words. -/
def barForm (s : State) : List Word := (List.finRange 16).flatMap fun i => barFaultWords s.faults.bars[i]

/-- GET_FAULTS with a data count (R168). -/
def opGetFaults (count : Nat) (s : State) : State × Reply :=
  if count = 6 then (s, { result := .done, data := some (nodeForm s) })
  else if count = 32 then (s, { result := .done, data := some (barForm s) })
  else (s, .only .range)

/-! ### CLEAR_FAULT (R29, R169) -/

/-- The ECC capture record emptied and the corrected count 0 (R29). -/
def Store.cleared (st : Store) : Store := { st with capture := none, corrected := 0 }

/-- CLEAR_FAULT with its target byte (R169). -/
def opClearFault (target bar : Byte) (s : State) : State × Reply :=
  if target = 0 then ({ s with faults := { s.faults with node := none } }, .only .done)
  else if target = 1 then
    match barOf bar with
    | none => (s, .only .range)
    | some n => ({ s with faults := { s.faults with bars := s.faults.bars.set n none } }, .only .done)
  else if target = 2 then ({ s with store := s.store.cleared }, .only .done)
  else if target = 3 then ({ s with faults := .initial, store := s.store.cleared }, .only .done)
  else (s, .only .range)

/-! ### GET_STATUS (R182, R188) -/

def Direction.number : Direction → Nat
  | .stopped => 0
  | .forward => 1
  | .reverse => 2

/-- The measured speed (R17). -/
def measuredSpeed (tMeas : Nat) : Nat :=
  if tMeas = saturated then 0 else if tMeas = 0 then maxSpeed else min maxSpeed (600000000 / tMeas)

/-- A 24-bit value in two words (R188). -/
def word24 (n : Nat) : List Word := [word (n / 65536), word (n % 65536)]

/-- How many held records are marked corrected (R55). -/
def Queue.correctedHeld (q : Queue) : Nat := (q.held.filter CourseRecord.corrected).length

/-- The pending record with the least ceiling, nearest the head among equals (R108). -/
def governing : List CourseRecord → Option CourseRecord
  | [] => none
  | r :: rest =>
    match governing rest with
    | none => some r
    | some g => if g.ceiling < r.ceiling then some g else some r

/-- NODE words 7 to 12: the last due check. -/
def dueCheckWords (d : Option DueCheck) : List Word :=
  match d with
  | none => [0, 0, 0, 0, 0, 0]
  | some c => [word ((if c.pass then 1 else 2) * 256 + c.margin), c.tag] ++ word24 c.tMeas ++ word24 c.tMin

/-- NODE words 0 to 6. -/
def nodeHeadWords (s : State) : List Word :=
  [word (s.ring.address * 256 + bitAt s.ring.up 0 + bitAt s.node.desync 1 + bitAt s.node.stopReq 2
      + bitAt (s.store.state == .ready) 3 + bitAt s.store.diagMode 4 + bitAt s.tracker.angleValid 5
      + bitAt s.node.guardEnable 6),
    word (s.node.state.number * 256 + s.tracker.dir.number * 64 + s.queue.correctedHeld),
    word s.tracker.angle]
    ++ word24 s.tracker.tMeas
    ++ [word (measuredSpeed s.tracker.tMeas), word (s.tracker.timeout * 256 + s.node.margin)]

/-- NODE words 13 to 31. -/
def nodeTailWords (s : State) : List Word :=
  let q := s.queue
  let g := governing q.pending
  [word s.node.us, word s.node.ul, word s.node.os, word s.node.ol,
    word s.expander.rowCountA, word s.expander.rowCountB,
    word (q.history.length * 4096 + q.pending.length * 128 + bitAt q.current.isSome 2 + bitAt q.expected.isSome 1
      + bitAt g.isSome 0),
    tagWord (q.history.head?.map CourseRecord.tag), tagWord (q.history.getLast?.map CourseRecord.tag),
    tagWord s.currentTag,
    tagWord (q.pending.head?.map CourseRecord.tag), tagWord (q.pending.getLast?.map CourseRecord.tag),
    tagWord q.expected,
    word q.ceiling]
    ++ word24 ((q.current.map CourseRecord.tMin).getD 0)
    ++ [word ((q.current.map CourseRecord.ceiling).getD maxSpeed),
      tagWord (g.map CourseRecord.tag), word ((g.map CourseRecord.ceiling).getD 0)]

/-- Section NODE: 32 words. -/
def nodeSection (s : State) : List Word := nodeHeadWords s ++ dueCheckWords s.queue.dueCheck ++ nodeTailWords s

def ClassState.number : ClassState → Nat
  | .invalid => 0
  | .computing => 1
  | .valid => 2
  | .stale => 3

def CommitOutcome.number : CommitOutcome → Nat
  | .none => 0
  | .done => 1
  | .clamped => 2
  | .eccFail => 3

/-- The four words of one class (R72, R188). -/
def classWords (k : DriveClass) : List Word :=
  let mt := lookupTime k 63
  [word (k.state.number * 2 ^ 14 + k.outcome.number * 2 ^ 12), word (k.spn * 256 + k.length),
    word (mt / 65536), word (mt % 65536)]

/-- Section CLASSES: 16 words. -/
def classesSection (s : State) : List Word := (List.finRange 4).flatMap fun c => classWords s.engine.classes[c]

def Motion.number : Motion → Nat
  | .still => 0
  | .moving _ => 1
  | .searching _ => 2

/-- The leg and the leg's pulses of a search in flight, 0 without one (R162). -/
def Motion.seeking : Motion → Bool
  | .searching x => x.leg == .seek
  | _ => false

def Motion.legPulses : Motion → Nat
  | .searching x => x.pulses
  | _ => 0

/-- The catch-up target reported while the node is in CATCHUP (R152). -/
def reportedTarget (s : State) (n : BarIx) : Option Nat :=
  if s.node.state = .catchup then s.node.catchup[n] else none

/-- Section BAR n: 12 words (R131, R152, R162). -/
def barSection (s : State) (n : BarIx) : List Word :=
  let b := s.bars[n]
  let t := reportedTarget s n
  [word (modeNumber b.mode * 2 ^ 14 + bitAt b.referenced 13 + b.motion.number * 2 ^ 11 + bitAt b.next.isSome 10
      + bitAt s.node.windowsOk 9 + bitAt t.isSome 8 + bitAt b.motion.seeking 7 + polarityNumber b.homePol * 2 ^ 6
      + bitAt b.enable 3 + bitAt b.step 2 + bitAt b.dirHigh 1 + bitAt (s.homeLevel n) 0),
    word b.pos, word b.target, word (b.next.getD 0),
    word (b.cls.val * 256 + b.lapSet.val),
    word b.limit,
    wordOfInt b.activeTrim, wordOfInt b.pendingTrim,
    (if s.node.windowsOk then wordOfInt (s.node.effectiveTrim b.activeTrim) else 0),
    word b.homePos, word b.motion.legPulses, word (t.getD 0)]

def Source.number : Source → Nat
  | .table => 0
  | .override => 1
  | .stand => 2
  | .excluded => 3

/-- One bar's word of section CURRENT; an EXCLUDED plan has no lead and no trail (R55). -/
def planWord (p : BarPlan) : Word :=
  word (p.source.number * 2 ^ 14 + bitAt p.clamped 13
    + (if p.source = .excluded then 0 else p.lead * 64 + p.trail))

/-- Section CURRENT: 19 words, all 0 when no current record is held (R55). -/
def currentSection (s : State) : List Word :=
  match s.queue.current with
  | none => List.replicate 19 0
  | some r =>
    [r.tag, r.row, word (bankNumber r.bank * 2 ^ 15 + bitAt r.corrected 14 + bitAt true 13)]
      ++ (List.finRange 16).map fun i => planWord r.plans[i]

/-- The words of the section named (12.2, R182). -/
def statusSection (s : State) (part bar : Byte) : Option (List Word) :=
  if part = 0 then some (nodeSection s)
  else if part = 1 then some (classesSection s)
  else if part = 2 then (barOf bar).map (barSection s)
  else if part = 3 then some (currentSection s)
  else none

/-- GET_STATUS with a data count, which must be the section's length (R182). -/
def opGetStatus (part bar : Byte) (count : Nat) (s : State) : State × Reply :=
  match statusSection s part bar with
  | none => (s, .only .range)
  | some ws => if ws.length = count then (s, { result := .done, data := some ws }) else (s, .only .range)

end Sys2Proof.Machine
end

