-- ==== Sys2Proof/Machine/Setup.lean ====
section
/-!
DEFINITION. JOG and REFERENCE (chapter 9).
-/

namespace Sys2Proof.Machine

/-- A step position raised to 0 or lowered to a limit (R154). -/
def clampSteps (p : Int) (limit : Nat) : Nat := min p.toNat limit

/-- A JOG taken by a referenced bar (R154). -/
def jogReferenced (s : State) (n : BarIx) (ramp : List Nat) (steps : Int) : State × Reply :=
  let b := s.bars[n]
  let wanted : Int := b.pos + steps
  let target := clampSteps wanted (b.limit * (s.classOf b).spn)
  let result : Result := if steps = 0 then .done else if (target : Int) = wanted then .started else .clamped
  (if steps = 0 then s else s.setBar n (b.startToward (some ramp) target), .only result)

/-- A JOG taken by an unreferenced bar (R155): without clamping, the position staying 0. -/
def jogUnreferenced (s : State) (n : BarIx) (ramp : List Nat) (steps : Int) : State × Reply :=
  if steps = 0 then (s, .only .done)
  else (s.setBar n (s.bars[n].startSteps ramp (0 < steps) steps.natAbs 0), .only .started)

/-- JOG (R153). -/
def opJog (bar : Byte) (v : Word) (s : State) : State × Reply :=
  match barOf bar, stepsOf v with
  | some n, some steps =>
    let b := s.bars[n]
    if b.mode ≠ .jog then (s, .only .state)
    else if b.busy then (s, .only .busy)
    else
      match s.rampOf b with
      | none => (s, .only .state)
      | some ramp => if b.referenced then jogReferenced s n ramp steps else jogUnreferenced s n ramp steps
  | _, _ => (s, .only .range)

/-- A search begins (R157 to R159): the values it takes, and the first leg by the sample of the home input. -/
def Bar.startSearch (b : Bar) (ramp : List Nat) (level : Bool) : Bar :=
  let x : Search := { leg := .seek, pulses := 0, period := rampEntry ramp 1, homePos := b.homePos, polarity := b.homePol,
                      left := 0 }
  b.startLeg x (if homeActive b.homePol level then .backOff else .seek)

/-- REFERENCE (R157). A VALID class has a committed ramp (R64); the search takes p1 of it. -/
def opReference (bar : Byte) (s : State) : State × Reply :=
  match barOf bar with
  | none => (s, .only .range)
  | some n =>
    let b := s.bars[n]
    if b.mode ≠ .jog then (s, .only .state)
    else if b.busy then (s, .only .busy)
    else if (s.classOf b).state ≠ .valid then (s, .only .state)
    else (s.setBar n (b.startSearch ((s.rampOf b).getD []) (s.homeLevel n)), .only .started)

end Sys2Proof.Machine
end

