-- ==== Sys2Proof/Machine/RingPort.lean ====
section
/-!
DEFINITION. The course ring port (chapter 11): LOAD and READ, how a service request is taken or held, what becomes of a
frame by its judgement, and the ring status.
-/

namespace Sys2Proof.Machine

/-! ### LOAD and READ (R32, R33, R35) -/

/-- The range checks LOAD and READ share (R32, R35): the word count, the data count, the last address. -/
def rangeBad (start : BitVec 24) (count : Byte) (dataCount : Nat) : Bool :=
  count.toNat < 1 || 32 < count.toNat || dataCount != count.toNat || storeSize < start.toNat + count.toNat

/-- Does a range meet the ramp region of a COMPUTING class (R32)? -/
def meetsComputing (s : State) (start count : Nat) : Bool :=
  (List.finRange 4).any fun c =>
    s.engine.classes[c].state == .computing && start < rampAddr c 32 && rampAddr c 0 < start + count

/-- A LOAD's result as it is examined (R32). -/
def loadResult (s : State) (start : BitVec 24) (count : Byte) (dataCount : Nat) : Result :=
  if rangeBad start count dataCount then .range
  else if s.store.state = .clearing then .busy
  else if meetsComputing s start.toNat count.toNat then .busy
  else .done

/-- The words of a LOAD with their addresses (R32). -/
def stagedWords : Nat → List Word → List (Nat × Word)
  | _, [] => []
  | a, d :: rest => (a, d) :: stagedWords (a + 1) rest

/-- A LOAD whose frame is clean (R32, R33): its words are staged and the first write is presented. -/
def opLoad (start : BitVec 24) (count : Byte) (data : List Word) (s : State) : State × Reply :=
  let r := loadResult s start count data.length
  if r = .done then
    ({ s with store := { s.store with staging := stagedWords start.toNat data } }.present .service, .only .done)
  else (s, .only r)

/-- A READ's refusal (R35). -/
def readRefusal (s : State) (start : BitVec 24) (count : Byte) (dataCount : Nat) : Option Result :=
  if rangeBad start count dataCount then some .range
  else if s.store.state = .clearing then some .busy
  else none

/-- A READ taken: its reads begin, and the reply follows the last of them (R35). -/
def State.beginRead (s : State) (start : BitVec 24) (count : Byte) (d : Deferred) : State :=
  let job : ReadJob := { start := start.toNat, count := count.toNat, words := [], firstBad := none, op := d.op,
                         env := d.env, ticket := d.ticket, form := d.form }
  { s with store := { s.store with read := some job } }.present .service

/-! ### Taking a service operation (R34, R179, R180) -/

/-- Must the data count of an operation be 0 (R180)? -/
def takesNoData : ServiceOp → Bool
  | .load .. | .read .. | .getStatus .. | .getFaults | .unknownOp _ => false
  | _ => true

/-- An operation that is answered as it is taken: the state it leaves and its reply. The data count is checked before
the operation's own checks (R180). A READ is asked here for its refusal alone (State.takeRequest). -/
def immediateOp (op : ServiceOp) (data : List Word) (s : State) : State × Reply :=
  if takesNoData op ∧ data ≠ [] then (s, .only .range)
  else
    match op with
    | .load start count => opLoad start count data s
    | .read start count => (s, .only ((readRefusal s start count data.length).getD .done))
    | .getParam identity index => opGetParam identity index s
    | .setRowCount bank v => opSetRowCount bank v s
    | .setMargin v => opSetMargin v s
    | .setStandstillTimeout v => opSetStandstillTimeout v s
    | .setWindow w v => opSetWindow w v s
    | .setGuardEnable v => opSetGuardEnable v s
    | .setDiagnosticCheckMode v => opSetDiagMode v s
    | .setDiagnosticCheckValue v => opSetDiagValue v s
    | .setStepsPerNeedle c v => opSetSpn c v s
    | .setRampLength c v => opSetRampLength c v s
    | .setMode b v => opSetMode b v s
    | .setClass b v => opSetClass b v s
    | .setLapSet b v => opSetLapSet b v s
    | .setTravelLimit b v => opSetTravelLimit b v s
    | .setTrim b v => opSetTrim b v s
    | .setHomePosition b v => opSetHomePosition b v s
    | .setHomePolarity b v => opSetHomePolarity b v s
    | .unknownParameter _ _ _ => opUnknownParameter s
    | .commitClass c => opCommitClass c s
    | .arm tag => opArm tag s
    | .disarm => opDisarm s
    | .resume => opResume s
    | .restart => opRestart s
    | .jog b v => opJog b v s
    | .reference b => opReference b s
    | .getStatus p b => opGetStatus p b data.length s
    | .getFaults => opGetFaults data.length s
    | .clearFault t b => opClearFault t b s
    | .unknownOp _ => (s, .only .unknownOp)

/-- A request is taken (R179): a READ that is not refused begins its reads; any other operation is answered at once. -/
def State.takeRequest (s : State) (d : Deferred) : State :=
  match d.op with
  | .read start count =>
    match readRefusal s start count d.env.data.length with
    | none => s.beginRead start count d
    | some r => s.answer d.ticket d.form d.op d.env (.only r)
  | op =>
    let r := immediateOp op d.env.data s
    r.1.answer d.ticket d.form op d.env r.2

/-- Is the service path occupied: staged words to be written (R34), a READ's words to be read, or an expansion, which no
service operation meets (R46)? -/
def State.pathOccupied (s : State) : Bool :=
  !s.store.staging.isEmpty || s.store.read.isSome || s.expander.job.isSome

/-- Must a request arriving now be held (R34)? Requests held already come first. -/
def State.mustDefer (s : State) : Bool := s.pathOccupied || !s.ring.deferred.isEmpty

/-- A request is taken, or held until it can be (R34). -/
def State.takeOrDefer (s : State) (d : Deferred) : State :=
  if s.mustDefer then { s with ring := { s.ring with deferred := s.ring.deferred ++ [d] } } else s.takeRequest d

/-- A frame takes its place in the forwarding store with the characters received (R175). -/
def State.enterFrame (s : State) (received : List Byte) : State := { s with ring := s.ring.enter received }

/-- The characters of the clean SERVICE_REQ that carries an operation to this node (R173, R179). -/
def requestChars (r : Ring) (op : ServiceOp) (env : Envelope) : List Byte :=
  cleanFrameOf (serviceBody (requestFrame (BitVec.ofNat 8 r.address) op env))

/-- A clean SERVICE_REQ addressed to this node (R179). While the reset input is active frames are not taken (R184). -/
def State.serviceRequest (s : State) (op : ServiceOp) (env : Envelope) : State :=
  if s.inReset then s
  else
    let s' := { s with ring := s.ring.cleanSeen }.enterFrame (requestChars s.ring op env)
    s'.takeOrDefer { op := op, env := env, ticket := s.ring.nextTicket, form := .clean }

/-- DEFERRED_SERVICE_OP (R34): the first request held is taken once the last staged word is written. With none held, or
the service path still occupied, the event cannot occur (entry 1). -/
def execDeferredServiceOp (homes : BitVec 16) (s : State) : Host.Outcome State Fault Refusal :=
  let s := { s with homes := homes }
  match s.ring.deferred with
  | [] => .next s
  | d :: rest =>
    .next (if s.pathOccupied then s else { s with ring := { s.ring with deferred := rest } }.takeRequest d)

/-! ### Course frames and other frames (R175, R176, R179) -/

/-- A clean course frame (R78, R174): handed to the queue, or waiting for the expansion in progress or the words of a LOAD
(R34, R46). The order of a course frame against requests held already is the MODEL'S CHOICE (entry 17): the course frame is
handed over first. -/
def State.courseFrame (s : State) (f : CourseFrame) : State :=
  if s.inReset then s
  else
    let ticket := s.ring.nextTicket
    let s' := { s with ring := s.ring.cleanSeen }.enterFrame (cleanFrameOf (courseBody f))
    if s'.expansionWaits then { s' with ring := { s'.ring with waiting := s'.ring.waiting ++ [(ticket, f)] } }
    else s'.handOver ticket f

/-- Is a service frame a request addressed to this node (R179)? -/
def addressedTo (r : Ring) (f : ServiceFrame) : Bool := !f.reply && f.dest.toNat == r.address

/-- A clean service frame: a request for this node is taken, any other is forwarded as received (R176, R179). -/
def State.serviceFrame (s : State) (f : ServiceFrame) : State :=
  if s.inReset then s
  else if addressedTo s.ring f then s.serviceRequest (decodeOp f.op f.args) (envelopeOf f)
  else
    let ticket := s.ring.nextTicket
    ({ s with ring := s.ring.cleanSeen }.enterFrame (cleanFrameOf (serviceBody f))).release ticket
      (cleanFrameOf (serviceBody f))

/-! ### Corrupt frames (R173, R176, R179) -/

/-- A corrupt frame that ran past its computed length (R176). -/
def longForm (cs : List Byte) (length : Nat) : List Byte := withLast (cs.take length) markCorrupt ++ cs.drop length

/-- What a corrupt frame is sent as when it is no request for this node whose CRC alone is bad (R176, R179). -/
def corruptForm (j : Judgement) (cs : List Byte) : List Byte :=
  match j with
  | .unknownKind => withLast cs (Config.unknownKindLast cs)
  | .short => cs
  | .long n => longForm cs n
  | _ => withLast cs markCorrupt

/-- The characters of a frame as a service frame, as far as they were received: what the node reads of a request before
its judgement (R179). -/
def requestSeen (cs : List Byte) : ServiceFrame := parseService (cs.drop 1)

/-- Is a corrupt frame a SERVICE_REQ for this node, by the characters received? -/
def corruptRequest (r : Ring) (cs : List Byte) : Bool := cs.getD 1 0 == kindRequest && (cs.getD 2 0).toNat == r.address

/-- The envelope of a request with as many data words as its data count says, the ones not received as 0: a READ is
checked by its data count and overwrites every data word (R35). -/
def paddedEnvelope (env : Envelope) (count : Nat) : Envelope :=
  { env with data := env.data ++ List.replicate (count - env.data.length) 0 }

/-- A corrupt request addressed to this node (R179): a READ whose arguments and data count were received makes its reads;
a LOAD is examined and its staging emptied; no other operation is taken. Only a request whose CRC alone is bad is sent as
a reply. The data words of a GET_FAULTS or GET_STATUS whose CRC alone is bad are sent as received (MODEL'S CHOICE,
entry 31: R168 writes them as the frame passes, R179 does not take the operation). A READ that is a framing error or arrives
marked has no reply formed, and yet its frame is held until its reads are made (MODEL'S CHOICE, entry 28). -/
def State.corruptAddressed (s : State) (ticket : Nat) (j : Judgement) (cs : List Byte) : State :=
  let f := requestSeen cs
  let op := decodeOp f.op f.args
  let env := envelopeOf f
  let form := if j = .badCrc then ReplyForm.marked else .fixed (corruptForm j cs)
  match op with
  | .read _ _ =>
    if 12 ≤ cs.length then s.takeOrDefer { op := op, env := paddedEnvelope env (cs.getD 11 0).toNat, ticket := ticket,
                                           form := form }
    else s.release ticket (corruptForm j cs)
  | .load start count => s.answer ticket form op env (.only (loadResult s start count env.data.length))
  | _ =>
    if j = .badCrc then
      s.release ticket (frameOf (serviceBody { f with reply := true })
        (Config.markedReplyCrc (serviceBody { f with reply := true })) markCorrupt)
    else s.release ticket (corruptForm j cs)

/-- A frame judged corrupt (R176, R179): its start restarts a running silence watch (R183). -/
def State.corrupt (s : State) (j : Judgement) (cs : List Byte) : State :=
  let ticket := s.ring.nextTicket
  let s' := { s with ring := s.ring.startSeen }.enterFrame cs
  if corruptRequest s.ring cs then s'.corruptAddressed ticket j cs
  else s'.release ticket (corruptForm j cs)

/-- The characters of one frame are received, judged, and acted on by the judgement (R173 to R179). -/
def State.receive (s : State) (chars : List RxChar) : State :=
  if s.inReset then s
  else
    match judge chars with
    | .noFrame => s
    | .cleanCourse f => s.courseFrame f
    | .cleanService f => s.serviceFrame f
    | j => s.corrupt j (chars.map RxChar.value)

/-- COURSE_FRAME (R78). -/
def execCourseFrame (f : CourseFrame) (s : State) : Host.Outcome State Fault Refusal := .next (s.courseFrame f)

/-- CORRUPT_FRAME (R176): the characters of a frame that is judged corrupt, or that arrives marked. -/
def execCorruptFrame (chars : List RxChar) (s : State) : Host.Outcome State Fault Refusal := .next (s.receive chars)

/-- SERVICE_FRAME_PASS (R179): a clean service frame that is no request for this node. -/
def execServiceFramePass (f : ServiceFrame) (s : State) : Host.Outcome State Fault Refusal := .next (s.serviceFrame f)

/-! ### Ring status (R183) -/

/-- The ring status becomes LOST and RING_LOST is reported (R166, R183). -/
def State.ringLost (s : State) : State :=
  { s with ring := { s.ring with up := false, silence := none } }.reportNode .ringLost s.currentTag s.tracker.angle

/-- RING_BREAK (R183): the line is held at space for 64 bit times. -/
def execRingBreak (s : State) : Host.Outcome State Fault Refusal :=
  .next (if s.ring.up = true ∧ s.inReset = false then s.ringLost else s)

/-- RING_SILENCE (R183): the running silence watch reaches 100 ms. -/
def execRingSilence (s : State) : Host.Outcome State Fault Refusal :=
  .next (if s.ring.silence.isSome = true ∧ s.inReset = false then s.ringLost else s)

end Sys2Proof.Machine
end

