-- ==== Sys2Proof/Machine/Shaft.lean ====
section
/-!
DEFINITION. The shaft tracker (chapter 1): decoding the quadrature channels, an increment with all it issues, index
corrections, index faults, standstill; and the disturbance of a catch-up (R147).
-/

namespace Sys2Proof.Machine

/-! ### Decoding (R1) -/

/-- What a sampled pair of levels is against the reference (R1). -/
inductive Change where
  | same
  | forward
  | reverse
  | double
deriving DecidableEq, Repr

/-- The place of a pair of levels in the forward cycle: low low, high low, high high, low high (R1). -/
def quadPlace (a b : Bool) : Nat :=
  match a, b with
  | false, false => 0
  | true, false => 1
  | true, true => 2
  | false, true => 3

/-- A new pair compared with the reference (R1). -/
def quadChange (refA refB a b : Bool) : Change :=
  let d := (quadPlace a b + 4 - quadPlace refA refB) % 4
  if d = 0 then .same else if d = 1 then .forward else if d = 3 then .reverse else .double

/-! ### One ordinary increment (R2, R10, R12 to R14, R16) -/

/-- The counter after an increment (R2). -/
def nextAngle (angle : Nat) (forward : Bool) : Nat :=
  if forward then (if angle = 1439 then 0 else angle + 1) else (if angle = 0 then 1439 else angle - 1)

/-- Does the increment withhold its crossings (R10)? -/
def Tracker.withholds (t : Tracker) (forward : Bool) : Bool := 0 < t.recross && forward == t.recrossForward

/-- The re-cross count after an increment that is no index increment (R10). -/
def Tracker.recrossAfter (t : Tracker) (forward : Bool) : Nat := if t.withholds forward then t.recross - 1 else 0

/-- The increments since index after an increment (R12). -/
def Tracker.sinceAfter (t : Tracker) (forward index : Bool) : Nat :=
  if t.angleValid = false ∨ index then 0 else if forward then t.sinceIndex + 1 else t.sinceIndex - 1

/-- One standstill timeout in timebase counts: 10 ms are 100,000 (R15). -/
def timeoutCounts (timeout : Nat) : Nat := timeout * 100000

/-- The tracker after the ordinary part of an increment (R1, R2, R6, R10, R12, R13, R14, R16); `index` says whether it is
an index increment, `level` is the index input. -/
def Tracker.advance (t : Tracker) (forward index level : Bool) : Tracker :=
  { t with
    angle := nextAngle t.angle forward
    dir := if forward then .forward else .reverse
    recross := t.recrossAfter forward
    sinceIndex := t.sinceAfter forward index
    oneShot := some (timeoutCounts t.timeout)
    spoiled := t.spoiled || !forward
    indexWas := level }

/-- The crossings of the ordinary part of an increment from `angle`: a forward one crosses the edge at the new angle, a
reverse one the edge at the old (R4, R5). -/
def ordinaryCrossings (s : State) (t : Tracker) (forward : Bool) : List Crossing :=
  if t.angleValid = true ∧ t.withholds forward = false then
    crossingsAt s forward (if forward then nextAngle t.angle forward else t.angle)
  else []

/-- Does the ordinary part of an increment cross the course boundary (R2, R3)? -/
def ordinaryBoundary (t : Tracker) (forward : Bool) : Bool :=
  t.angleValid && t.angle == (if forward then 1439 else 0)

/-! ### The index (R6 to R9, R11) -/

/-- What an index with the angle valid does, by the counter value found (R7, R8, R9). -/
structure Correction where
  /-- the counter afterwards -/
  angle   : Nat
  recross : Nat
  /-- the edge angles whose crossings are still to be issued, in order -/
  edges   : List Nat
  /-- does it issue the boundary event? -/
  boundary : Bool
  slip    : Bool
deriving DecidableEq, Repr

/-- A forward index that finds the counter at v (R7, R9). -/
def forwardCorrection (v : Nat) : Correction :=
  if v ≤ 4 then ⟨0, v, [], false, false⟩
  else if 1436 ≤ v then ⟨0, 0, (List.range (1439 - v)).map (v + 1 + ·), true, false⟩
  else ⟨0, 0, [], 720 ≤ v, true⟩

/-- A reverse index that finds the counter at v (R8, R9). -/
def reverseCorrection (v : Nat) : Correction :=
  if 1435 ≤ v then ⟨1439, 1439 - v, [], false, false⟩
  else if v ≤ 3 then ⟨1439, 0, (List.range v).map (v - ·), true, false⟩
  else ⟨1439, 0, [], v ≤ 719, true⟩

def correctionOf (forward : Bool) (v : Nat) : Correction := if forward then forwardCorrection v else reverseCorrection v

/-- The correction of an increment: none when it is no index increment or the angle is invalid. -/
def correctionAt (t : Tracker) (forward index : Bool) : Option Correction :=
  if index && t.angleValid then some (correctionOf forward (nextAngle t.angle forward)) else none

/-- The tracker once an index correction is made; a correction sets the re-cross count and its sense (R7 to R10). -/
def Tracker.corrected (t : Tracker) (forward : Bool) (c : Correction) : Tracker :=
  { t with angle := c.angle, recross := c.recross, recrossForward := if c.recross = 0 then t.recrossForward else forward }

/-- What a capture of the period counter gives T_meas (R16). -/
def Tracker.captured (t : Tracker) : Nat := if t.spoiled then saturated else t.period

/-- The capture at a forward index (R16). -/
def Tracker.capture (t : Tracker) : Tracker := { t with tMeas := t.captured, period := 0, spoiled := false }

/-- The first index while the angle is invalid (R11). -/
def Tracker.validate (t : Tracker) (forward : Bool) : Tracker :=
  if forward then
    { t with angle := 0, angleValid := true, recross := 0, sinceIndex := 0, period := 0, tMeas := saturated, spoiled := false }
  else { t with angle := 1439, angleValid := true, recross := 0, sinceIndex := 0, spoiled := true }

/-! ### Index faults (R9, R12, R138) -/

/-- INDEX_SLIP is recorded and handed to the node controller (R9, R138). -/
def State.indexSlip (s : State) (v : Nat) : State := (s.reportNode .indexSlip s.currentTag v).requestHold true

/-- The most increments since index before the index is missing (R12). -/
def missingAt : Nat := 1449

/-- Has the count reached 1449 with the angle valid (R12)? -/
def Tracker.indexOverdue (t : Tracker) : Bool := t.angleValid && missingAt ≤ t.sinceIndex

/-- Did the increment that reached the count cross the course boundary? It is a forward increment without an index, which
gives the counter 0 by a wrap alone (R2, R12). -/
def Tracker.boundaryOwed (t : Tracker) : Bool := t.indexOverdue && t.angle == 0

/-- INDEX_MISSING is recorded and handed over with the record current then as its tag (R12, R138, R166); then the boundary
that its increment carries is issued (R166), but in ARMED, where no boundary reaches the queue and the node stays ARMED
(R138); then the angle becomes invalid (R12). That the boundary is issued at all in RUNNING, HOLD and CATCHUP is the MODEL'S
CHOICE (entry 32). -/
def State.indexMissing (s : State) : State :=
  let handed := (s.reportNode .indexMissing s.currentTag s.tracker.angle).requestHold true
  let ended := if s.tracker.boundaryOwed ∧ s.node.state ≠ .armed then handed.boundary true s.tracker.tMeas else handed
  { ended with tracker := { s.tracker with angleValid := false, sinceIndex := 0, recross := 0 } }

/-- A shaft increment in CATCHUP is reported and takes HOLD (R147). -/
def State.disturbed (s : State) (angle : Nat) : State :=
  (s.reportNode .catchupDisturbed s.currentTag angle).requestHold false

/-! ### The increment (R1 to R17) -/

/-- The place of CATCHUP_DISTURBED among an increment's reports (entry 5): first when nothing else is reported to the
node record or moves the queue, else a free choice. The INDEX_MISSING of the same increment, and a boundary that follows
it, always come after it (MODEL'S CHOICE, entry 5: R138, R147 and R165 leave it open). -/
def disturbPlace (seed : Nat) (slip boundary : Bool) : Nat :=
  if slip = false ∧ boundary = false then 0 else Config.disturbWhen seed

/-- What the due check of an increment's boundary reads as T_meas: the value before or after the capture of the same
increment, a free choice where they differ (R17; entry 6). -/
def dueCheckReads (seed before after : Nat) : Nat :=
  if before = after then before else if Config.captureFirst seed then after else before

/-- One forward or reverse increment, taken whole (R1); `level` is the index input at it. An increment that brings the
count to 1449 leaves its own boundary to INDEX_MISSING, which is handed over first (R12, R166; State.indexMissing). -/
def State.takeIncrement (s : State) (forward level : Bool) : State :=
  let seed := s.choices
  let t := s.tracker
  let index := level && !t.indexWas
  let correction := correctionAt t forward index
  let slip := correction.any Correction.slip
  let moved := t.advance forward index level
  let isBoundary := (ordinaryBoundary t forward && !moved.indexOverdue) || correction.any Correction.boundary
  let inCatchup := s.node.state == .catchup
  let place := disturbPlace seed slip isBoundary
  let angle := nextAngle t.angle forward
  let crossings := ordinaryCrossings s t forward
    ++ (correction.map fun c => c.edges.flatMap (crossingsAt s forward)).getD []
  let indexed := match correction with
    | some c => if forward then (moved.corrected forward c).capture else moved.corrected forward c
    | none => if index then moved.validate forward else moved
  let s := { s with tracker := moved, choices := seed + 1 }
  let s := if inCatchup ∧ place = 0 then s.disturbed angle else s
  let crossed := takeIncrementCrossings seed s crossings
  let s := if slip then crossed.1.indexSlip angle else crossed.1
  let s := if inCatchup ∧ place = 1 then s.disturbed angle else s
  let s := { s with tracker := indexed }
  let s := if isBoundary then s.boundary forward (dueCheckReads seed moved.tMeas indexed.tMeas) else s
  let s := if crossed.2 then s.requestHold false else s
  if inCatchup ∧ place ≠ 0 ∧ place ≠ 1 then s.disturbed angle else s

/-- A new pair of levels becomes the quadrature reference (R1). -/
def State.adoptLevels (s : State) (a b : Bool) : State := { s with tracker := { s.tracker with levelA := a, levelB := b } }

/-- A missing index that has not been taken yet is taken before the next increment, and after any other command that waited
behind the increment that reached the count (R12; MODEL'S CHOICE, entry 8). -/
def State.settleIndex (s : State) : State := if s.tracker.indexOverdue then s.indexMissing else s

/-- INCREMENT (R1): a sampled pair of levels A and B, with the index input. The same pair takes nothing; a double change
is only adopted as the reference; a change to the next or the previous pair is one increment. While the reset input is
active no sample is taken (R1, R184). -/
def execIncrement (a b level : Bool) (s : State) : Host.Outcome State Fault Refusal :=
  .next (
    if s.inReset then s
    else
      match quadChange s.tracker.levelA s.tracker.levelB a b with
      | .same => s
      | .double => s.adoptLevels a b
      | .forward => (s.settleIndex.adoptLevels a b).takeIncrement true level
      | .reverse => (s.settleIndex.adoptLevels a b).takeIncrement false level)

/-- INDEX_MISSING (R12). Without an overdue index the event cannot occur and changes nothing (entry 1). -/
def execIndexMissing (s : State) : Host.Outcome State Fault Refusal := .next s.settleIndex

/-- STANDSTILL_EXPIRY (R14): the running one-shot expires. -/
def execStandstillExpiry (s : State) : Host.Outcome State Fault Refusal :=
  .next (
    if s.tracker.oneShot.isSome then
      { s with tracker := { s.tracker with oneShot := none, dir := .stopped, tMeas := saturated } }
    else s)

end Sys2Proof.Machine
end

