-- ==== Sys2Proof/Machine/Clock.lean ====
section
/-!
DEFINITION. What a step does on an empty queue (entry 2): the events that are due now are put into the queue; when there
are none, one timebase count of the 10 MHz reference passes, and the events that fall due at its end are put into the queue.
-/

namespace Sys2Proof.Machine

/-! ### Events due without any time passing -/

/-- INDEX_MISSING after the increment that reached the count (R12), the completion of an expansion at its last fetch
(R46), a held service request once the service path is free (R34). They are queued behind what is queued already: commands
that wait behind the increment are taken before INDEX_MISSING (MODEL'S CHOICE, entry 8), and the events due at the count of
an expansion's last fetch before its completion (MODEL'S CHOICE, entry 3). -/
def immediateDue (s : State) : List Instr :=
  (if s.tracker.indexOverdue then [.indexMissing] else [])
    ++ (if s.expander.job.any fun j => j.todo.isEmpty then [.expansionComplete] else [])
    ++ (if !s.ring.deferred.isEmpty && !s.pathOccupied then [.deferredServiceOp s.homes] else [])

/-! ### One timebase count -/

/-- A time that counts down. -/
def countDown (t : Option Nat) : Option Nat := t.map (· - 1)

/-- Does a running time end with this count? -/
def endsNow (t : Option Nat) : Bool := t.any (· ≤ 1)

/-- The tracker's times (R14, R16). -/
def Tracker.tick (t : Tracker) : Tracker :=
  { t with period := min saturated (t.period + 1), oneShot := countDown t.oneShot }

def Motion.tick : Motion → Motion
  | .still => .still
  | .moving m => .moving { m with left := m.left - 1 }
  | .searching x => .searching { x with left := x.left - 1 }

/-- A bar's times: the period of its move or search, and its step pulse (R110, R115, R158). -/
def Bar.tick (b : Bar) : Bar := { b with motion := b.motion.tick, pulseLeft := b.pulseLeft - 1 }

/-- The computation stage takes four counts for each of 64 entries (R67). -/
def computeCounts : Nat := 256

/-- The commit in its computation stage: every fourth count adds an entry to the shadow table (R67). -/
def Commit.tick (c : Commit) : Commit :=
  match c.stage with
  | .fetching => c
  | .computing e =>
    { c with
      stage := .computing (e + 1)
      shadow := if (e + 1) % 4 = 0 ∧ c.shadow.length < 64 then c.shadow ++ [tableEntry c.fetched c.spn c.shadow.length]
                else c.shadow }

/-- The silence watch's limit: 100 ms (R183). -/
def silenceLimit : Nat := 1000000

/-- One timebase count of every running time. -/
def State.tick (s : State) : State :=
  { s with
    tracker := s.tracker.tick
    store := { s.store with clearLeft := s.store.clearLeft - 1 }
    engine := { s.engine with commit := s.engine.commit.map Commit.tick }
    bars := mapBars s.bars Bar.tick
    ring := { s.ring with silence := s.ring.silence.map (· + 1) } }

/-- A bar's event at the end of the count. -/
def barDue (s : State) (n : BarIx) : List Instr :=
  let b := s.bars[n]
  (match b.motion with
    | .still => []
    | .moving m => if m.left ≤ 1 then [if m.emitted < m.steps then .stepPulse n else .moveComplete n] else []
    | .searching x => if x.left ≤ 1 then [.searchSample n s.homes] else [])
    ++ (if b.step ∧ b.pulseLeft ≤ 1 then [.stepPulseEnd n] else [])

/-- Does the commit's computation stage end with this count (R67)? -/
def computationEnds (e : Engine) : Bool :=
  e.commit.any fun c => match c.stage with
    | .fetching => false
    | .computing k => computeCounts ≤ k + 1

/-- The events that fall due at the end of one timebase count. -/
def timeDue (s : State) : List Instr :=
  (if endsNow s.tracker.oneShot then [.standstillExpiry] else [])
    ++ (if s.store.state = .clearing ∧ s.store.clearLeft ≤ 1 then [.storeClearDone] else [])
    ++ (if s.store.access.isSome then [.wordAccessComplete] else [])
    ++ (if computationEnds s.engine then [.commitSwap] else [])
    ++ (List.finRange 16).flatMap (barDue s)
    ++ (if s.ring.silence.any (silenceLimit ≤ · + 1) then [.ringSilence] else [])

/-! ### The order of events due together (entry 3) -/

/-- Events of one bar's step output, which meet no other event. -/
def meetsNothing : Instr → Bool
  | .stepPulse _ => true
  | .stepPulseEnd _ => true
  | _ => false

/-- A pair inserted in a list by rank. -/
def insertByRank (x : Nat × Instr) : List (Nat × Instr) → List (Nat × Instr)
  | [] => [x]
  | y :: rest => if x.1 ≤ y.1 then x :: y :: rest else y :: insertByRank x rest

/-- A list of pairs sorted by rank. -/
def sortByRank : List (Nat × Instr) → List (Nat × Instr)
  | [] => []
  | x :: rest => insertByRank x (sortByRank rest)

/-- Each event with its free rank. -/
def ranked (seed : Nat) : Nat → List Instr → List (Nat × Instr)
  | _, [] => []
  | k, e :: rest => (Config.dueRank seed k, e) :: ranked seed (k + 1) rest

/-- The order in which events due together are queued: a free choice, but where it cannot matter. -/
def dueOrder (seed : Nat) (es : List Instr) : List Instr :=
  if es.length ≤ 1 ∨ es.all meetsNothing then es else (sortByRank (ranked seed 0 es)).map Prod.snd

/-- Due events put into the queue. -/
def State.queueDue (s : State) (es : List Instr) : State :=
  if es.isEmpty then s else { s with pending := s.pending ++ dueOrder s.choices es, choices := s.choices + 1 }

/-- The step on an empty queue. -/
def State.idle (s : State) : State :=
  let now := immediateDue s
  if now.isEmpty then s.tick.queueDue (timeDue s) else s.queueDue now

end Sys2Proof.Machine
end

