-- ==== Sys2Proof/Machine/Resets.lean ====
section
/-!
DEFINITION. Power-on, the pin reset and its end (R18, R36, R54, R73, R77, R119, R132, R151, R171, R178, R184).
-/

namespace Sys2Proof.Machine

/-- POWER_ON (R151): every block in its reset state, the stop request asserted, the straps and the levels A and B read,
the power-on clear started. The commands that wait and the choice counter are the model's own and stay. -/
def execPowerOn (straps : BitVec 3) (a b : Bool) (homes : BitVec 16) (s : State) : Host.Outcome State Fault Refusal :=
  .next { State.poweredOn straps a b homes with choices := s.choices, pending := s.pending }

/-- The store at a pin reset (R36): contents and store state stay, an access in progress runs on without its client. -/
def Store.pinReset (st : Store) : Store :=
  { Store.initial with
    words := st.words
    state := st.state
    clearLeft := st.clearLeft
    access := st.access.map fun a => { a with orphan := true } }

/-- A bar motion unit at a pin reset: as after power-on, but the direction output keeps its level (R119, R132). -/
def Bar.pinReset (b : Bar) : Bar := { Bar.initial with dirHigh := b.dirHigh }

/-- The ring port at a pin reset (R183, R184): the forwarding store is emptied and the ring status LOST; a frame partly sent
is cut short after the characters that have left (R175); the straps are read when the reset ends. -/
def Ring.pinReset (r : Ring) : Ring :=
  { Ring.initial r.straps with nextTicket := r.nextTicket, sent := r.sent ++ r.headSent.toList }

/-- The node while the reset input is active. -/
def State.pinReset (s : State) : State :=
  { tracker := .initial s.tracker.levelA s.tracker.levelB
    store := s.store.pinReset
    expander := .initial
    engine := .initial
    queue := .initial
    bars := mapBars s.bars Bar.pinReset
    node := .initial
    faults := .initial
    ring := s.ring.pinReset
    homes := s.homes
    inReset := true
    choices := s.choices
    pending := s.pending }

/-- PIN_RESET (R151): the reset input becomes active. -/
def execPinReset (s : State) : Host.Outcome State Fault Refusal := .next s.pinReset

/-- RESET_END (R18, R178, R184): the reset input returns inactive; the straps are read, the levels A and B become the
quadrature reference, the period counter restarts from 0, the ring status is LOST and receiving begins again. -/
def execResetEnd (straps : BitVec 3) (a b : Bool) (s : State) : Host.Outcome State Fault Refusal :=
  .next { s with
    tracker := { s.tracker with levelA := a, levelB := b, period := 0, spoiled := false }
    ring := { s.ring with straps := straps, up := false, silence := none }
    inReset := false }

end Sys2Proof.Machine
end

