-- ==== Sys2Proof/Machine/ServiceCommands.lean ====
section
/-!
DEFINITION. The service commands: a clean SERVICE_REQ addressed to this node, one definition per row of the table. Each is
the request of its operation to the ring port (R179), which takes it by the operation's own rule, or holds it (R34).
-/

namespace Sys2Proof.Machine

/-- LOAD (R32 to R34). -/
def execLoad (env : Envelope) (start : BitVec 24) (count : Byte) (s : State) : Host.Outcome State Fault Refusal :=
  .next (s.serviceRequest (.load start count) env)

/-- READ (R35). -/
def execRead (env : Envelope) (start : BitVec 24) (count : Byte) (s : State) : Host.Outcome State Fault Refusal :=
  .next (s.serviceRequest (.read start count) env)

/-- GET_PARAM (R181). -/
def execGetParam (env : Envelope) (identity index : Byte) (s : State) : Host.Outcome State Fault Refusal :=
  .next (s.serviceRequest (.getParam identity index) env)

/-- SET_PARAM of a row count (R38). -/
def execSetRowCount (env : Envelope) (bank : Bank) (v : Word) (s : State) : Host.Outcome State Fault Refusal :=
  .next (s.serviceRequest (.setRowCount bank v) env)

/-- SET_PARAM of the margin (R105). -/
def execSetMargin (env : Envelope) (v : Word) (s : State) : Host.Outcome State Fault Refusal :=
  .next (s.serviceRequest (.setMargin v) env)

/-- SET_PARAM of the standstill timeout (R15). -/
def execSetStandstillTimeout (env : Envelope) (v : Word) (s : State) : Host.Outcome State Fault Refusal :=
  .next (s.serviceRequest (.setStandstillTimeout v) env)

/-- SET_PARAM of a window parameter (R120). -/
def execSetWindow (env : Envelope) (w : WindowParam) (v : Word) (s : State) : Host.Outcome State Fault Refusal :=
  .next (s.serviceRequest (.setWindow w v) env)

/-- SET_PARAM of the guard enable (R129). -/
def execSetGuardEnable (env : Envelope) (v : Word) (s : State) : Host.Outcome State Fault Refusal :=
  .next (s.serviceRequest (.setGuardEnable v) env)

/-- SET_PARAM of diagnostic check mode (R30). -/
def execSetDiagnosticCheckMode (env : Envelope) (v : Word) (s : State) : Host.Outcome State Fault Refusal :=
  .next (s.serviceRequest (.setDiagnosticCheckMode v) env)

/-- SET_PARAM of the diagnostic check value (R30). -/
def execSetDiagnosticCheckValue (env : Envelope) (v : Word) (s : State) : Host.Outcome State Fault Refusal :=
  .next (s.serviceRequest (.setDiagnosticCheckValue v) env)

/-- SET_PARAM of a class's steps per needle (R56). -/
def execSetStepsPerNeedle (env : Envelope) (cls : Byte) (v : Word) (s : State) : Host.Outcome State Fault Refusal :=
  .next (s.serviceRequest (.setStepsPerNeedle cls v) env)

/-- SET_PARAM of a class's ramp length (R56). -/
def execSetRampLength (env : Envelope) (cls : Byte) (v : Word) (s : State) : Host.Outcome State Fault Refusal :=
  .next (s.serviceRequest (.setRampLength cls v) env)

/-- SET_PARAM of a bar's mode (R109). -/
def execSetMode (env : Envelope) (bar : Byte) (v : Word) (s : State) : Host.Outcome State Fault Refusal :=
  .next (s.serviceRequest (.setMode bar v) env)

/-- SET_PARAM of a bar's class (R57). -/
def execSetClass (env : Envelope) (bar : Byte) (v : Word) (s : State) : Host.Outcome State Fault Refusal :=
  .next (s.serviceRequest (.setClass bar v) env)

/-- SET_PARAM of a bar's lap set (R41). -/
def execSetLapSet (env : Envelope) (bar : Byte) (v : Word) (s : State) : Host.Outcome State Fault Refusal :=
  .next (s.serviceRequest (.setLapSet bar v) env)

/-- SET_PARAM of a bar's travel limit (R111). -/
def execSetTravelLimit (env : Envelope) (bar : Byte) (v : Word) (s : State) : Host.Outcome State Fault Refusal :=
  .next (s.serviceRequest (.setTravelLimit bar v) env)

/-- SET_PARAM of a bar's trim (R121). -/
def execSetTrim (env : Envelope) (bar : Byte) (v : Word) (s : State) : Host.Outcome State Fault Refusal :=
  .next (s.serviceRequest (.setTrim bar v) env)

/-- SET_PARAM of a bar's home position (R156). -/
def execSetHomePosition (env : Envelope) (bar : Byte) (v : Word) (s : State) : Host.Outcome State Fault Refusal :=
  .next (s.serviceRequest (.setHomePosition bar v) env)

/-- SET_PARAM of a bar's home polarity (R156). -/
def execSetHomePolarity (env : Envelope) (bar : Byte) (v : Word) (s : State) : Host.Outcome State Fault Refusal :=
  .next (s.serviceRequest (.setHomePolarity bar v) env)

/-- A SET_PARAM that names no parameter (R181). -/
def execUnknownParameter (env : Envelope) (identity index : Byte) (v : Word) (s : State) :
    Host.Outcome State Fault Refusal :=
  .next (s.serviceRequest (.unknownParameter identity index v) env)

/-- COMMIT_CLASS (R65). -/
def execCommitClass (env : Envelope) (cls : Byte) (s : State) : Host.Outcome State Fault Refusal :=
  .next (s.serviceRequest (.commitClass cls) env)

/-- ARM (R139). -/
def execArm (env : Envelope) (firstTag : Word) (s : State) : Host.Outcome State Fault Refusal :=
  .next (s.serviceRequest (.arm firstTag) env)

/-- DISARM (R149). -/
def execDisarm (env : Envelope) (s : State) : Host.Outcome State Fault Refusal :=
  .next (s.serviceRequest .disarm env)

/-- RESUME (R143). -/
def execResume (env : Envelope) (s : State) : Host.Outcome State Fault Refusal :=
  .next (s.serviceRequest .resume env)

/-- RESTART (R150). -/
def execRestart (env : Envelope) (s : State) : Host.Outcome State Fault Refusal :=
  .next (s.serviceRequest .restart env)

/-- JOG (R153). -/
def execJog (env : Envelope) (bar : Byte) (steps : Word) (s : State) : Host.Outcome State Fault Refusal :=
  .next (s.serviceRequest (.jog bar steps) env)

/-- REFERENCE (R157), with the levels at the home inputs. -/
def execReference (env : Envelope) (bar : Byte) (homes : BitVec 16) (s : State) : Host.Outcome State Fault Refusal :=
  .next ({ s with homes := homes }.serviceRequest (.reference bar) env)

/-- GET_STATUS (R182), with the levels at the home inputs. -/
def execGetStatus (env : Envelope) (part bar : Byte) (homes : BitVec 16) (s : State) :
    Host.Outcome State Fault Refusal :=
  .next ({ s with homes := homes }.serviceRequest (.getStatus part bar) env)

/-- GET_FAULTS (R168). -/
def execGetFaults (env : Envelope) (s : State) : Host.Outcome State Fault Refusal :=
  .next (s.serviceRequest .getFaults env)

/-- CLEAR_FAULT (R169). -/
def execClearFault (env : Envelope) (target bar : Byte) (s : State) : Host.Outcome State Fault Refusal :=
  .next (s.serviceRequest (.clearFault target bar) env)

/-- A request whose op names no operation (R180). -/
def execUnknownOp (env : Envelope) (op : Byte) (s : State) : Host.Outcome State Fault Refusal :=
  .next (s.serviceRequest (.unknownOp op) env)

end Sys2Proof.Machine
end

