-- ==== Sys2Proof/Machine/Dispatch.lean ====
section
/-!
DEFINITION. The effect of each command on everything but the queue of commands: one arm per row of the table.
-/

namespace Sys2Proof.Machine

def exec (i : Instr) (s : State) : Host.Outcome State Fault Refusal :=
  match i with
  | .powerOn straps a b homes => Sys2Proof.Machine.execPowerOn straps a b homes s
  | .pinReset => Sys2Proof.Machine.execPinReset s
  | .resetEnd straps a b => Sys2Proof.Machine.execResetEnd straps a b s
  | .increment a b index => Sys2Proof.Machine.execIncrement a b index s
  | .indexMissing => Sys2Proof.Machine.execIndexMissing s
  | .standstillExpiry => Sys2Proof.Machine.execStandstillExpiry s
  | .storeClearDone => Sys2Proof.Machine.execStoreClearDone s
  | .wordAccessComplete => Sys2Proof.Machine.execWordAccessComplete s
  | .commitSwap => Sys2Proof.Machine.execCommitSwap s
  | .expansionComplete => Sys2Proof.Machine.execExpansionComplete s
  | .stepPulse bar => Sys2Proof.Machine.execStepPulse bar s
  | .stepPulseEnd bar => Sys2Proof.Machine.execStepPulseEnd bar s
  | .moveComplete bar => Sys2Proof.Machine.execMoveComplete bar s
  | .searchSample bar homes => Sys2Proof.Machine.execSearchSample bar homes s
  | .courseFrame frame => Sys2Proof.Machine.execCourseFrame frame s
  | .corruptFrame chars => Sys2Proof.Machine.execCorruptFrame chars s
  | .serviceFramePass frame => Sys2Proof.Machine.execServiceFramePass frame s
  | .ringBreak => Sys2Proof.Machine.execRingBreak s
  | .ringSilence => Sys2Proof.Machine.execRingSilence s
  | .deferredServiceOp homes => Sys2Proof.Machine.execDeferredServiceOp homes s
  | .load env start count => Sys2Proof.Machine.execLoad env start count s
  | .read env start count => Sys2Proof.Machine.execRead env start count s
  | .getParam env identity index => Sys2Proof.Machine.execGetParam env identity index s
  | .setRowCount env bank value => Sys2Proof.Machine.execSetRowCount env bank value s
  | .setMargin env value => Sys2Proof.Machine.execSetMargin env value s
  | .setStandstillTimeout env value => Sys2Proof.Machine.execSetStandstillTimeout env value s
  | .setWindow env param value => Sys2Proof.Machine.execSetWindow env param value s
  | .setGuardEnable env value => Sys2Proof.Machine.execSetGuardEnable env value s
  | .setDiagnosticCheckMode env value => Sys2Proof.Machine.execSetDiagnosticCheckMode env value s
  | .setDiagnosticCheckValue env value => Sys2Proof.Machine.execSetDiagnosticCheckValue env value s
  | .setStepsPerNeedle env cls value => Sys2Proof.Machine.execSetStepsPerNeedle env cls value s
  | .setRampLength env cls value => Sys2Proof.Machine.execSetRampLength env cls value s
  | .setMode env bar value => Sys2Proof.Machine.execSetMode env bar value s
  | .setClass env bar value => Sys2Proof.Machine.execSetClass env bar value s
  | .setLapSet env bar value => Sys2Proof.Machine.execSetLapSet env bar value s
  | .setTravelLimit env bar value => Sys2Proof.Machine.execSetTravelLimit env bar value s
  | .setTrim env bar value => Sys2Proof.Machine.execSetTrim env bar value s
  | .setHomePosition env bar value => Sys2Proof.Machine.execSetHomePosition env bar value s
  | .setHomePolarity env bar value => Sys2Proof.Machine.execSetHomePolarity env bar value s
  | .commitClass env cls => Sys2Proof.Machine.execCommitClass env cls s
  | .arm env firstTag => Sys2Proof.Machine.execArm env firstTag s
  | .disarm env => Sys2Proof.Machine.execDisarm env s
  | .resume env => Sys2Proof.Machine.execResume env s
  | .restart env => Sys2Proof.Machine.execRestart env s
  | .jog env bar steps => Sys2Proof.Machine.execJog env bar steps s
  | .reference env bar homes => Sys2Proof.Machine.execReference env bar homes s
  | .getStatus env part bar homes => Sys2Proof.Machine.execGetStatus env part bar homes s
  | .getFaults env => Sys2Proof.Machine.execGetFaults env s
  | .clearFault env target bar => Sys2Proof.Machine.execClearFault env target bar s
  | .unknownOp env op => Sys2Proof.Machine.execUnknownOp env op s
  | .unknownParameter env identity index value => Sys2Proof.Machine.execUnknownParameter env identity index value s

end Sys2Proof.Machine
end

