-- ==== Sys2Proof/Safety.lean ====
section
/-!
DEFINITION. The words that statements about the node use: when a service request is taken as it arrives, what the ring port
holds once it is answered, and the invariants that every step keeps.
-/

namespace Sys2Proof

/-- The operation and the envelope of a command that is a service request addressed to this node. -/
def Instr.request : Instr → Option (ServiceOp × Envelope)
  | .load env start count => some (.load start count, env)
  | .read env start count => some (.read start count, env)
  | .getParam env identity index => some (.getParam identity index, env)
  | .setRowCount env bank v => some (.setRowCount bank v, env)
  | .setMargin env v => some (.setMargin v, env)
  | .setStandstillTimeout env v => some (.setStandstillTimeout v, env)
  | .setWindow env w v => some (.setWindow w v, env)
  | .setGuardEnable env v => some (.setGuardEnable v, env)
  | .setDiagnosticCheckMode env v => some (.setDiagnosticCheckMode v, env)
  | .setDiagnosticCheckValue env v => some (.setDiagnosticCheckValue v, env)
  | .setStepsPerNeedle env cls v => some (.setStepsPerNeedle cls v, env)
  | .setRampLength env cls v => some (.setRampLength cls v, env)
  | .setMode env bar v => some (.setMode bar v, env)
  | .setClass env bar v => some (.setClass bar v, env)
  | .setLapSet env bar v => some (.setLapSet bar v, env)
  | .setTravelLimit env bar v => some (.setTravelLimit bar v, env)
  | .setTrim env bar v => some (.setTrim bar v, env)
  | .setHomePosition env bar v => some (.setHomePosition bar v, env)
  | .setHomePolarity env bar v => some (.setHomePolarity bar v, env)
  | .commitClass env cls => some (.commitClass cls, env)
  | .arm env tag => some (.arm tag, env)
  | .disarm env => some (.disarm, env)
  | .resume env => some (.resume, env)
  | .restart env => some (.restart, env)
  | .jog env bar steps => some (.jog bar steps, env)
  | .reference env bar _ => some (.reference bar, env)
  | .getStatus env part bar _ => some (.getStatus part bar, env)
  | .getFaults env => some (.getFaults, env)
  | .clearFault env target bar => some (.clearFault target bar, env)
  | .unknownOp env op => some (.unknownOp op, env)
  | .unknownParameter env identity index v => some (.unknownParameter identity index v, env)
  | .powerOn .. | .pinReset | .resetEnd .. | .increment .. | .indexMissing | .standstillExpiry | .storeClearDone
  | .wordAccessComplete | .commitSwap | .expansionComplete | .stepPulse _ | .stepPulseEnd _ | .moveComplete _
  | .searchSample .. | .courseFrame _ | .corruptFrame _ | .serviceFramePass _ | .ringBreak | .ringSilence
  | .deferredServiceOp _ => none

/-- The levels of the home inputs once a service request is sampled: REFERENCE and GET_STATUS carry them. -/
def Instr.homesSeen (i : Instr) (before : BitVec 16) : BitVec 16 :=
  match i with
  | .reference _ _ homes => homes
  | .getStatus _ _ _ homes => homes
  | _ => before

namespace Machine

/-! ### Service requests -/

/-- Is a service request that arrives now taken as it arrives (R34, R179, R184)? -/
def State.takesService (s : State) : Prop := s.inReset = false ∧ s.mustDefer = false

/-- The ring port once a clean frame has arrived: the ring is UP, the silence watch restarted, and the frame has its place at
the end of the forwarding store with its characters (R175, R183). -/
def State.ringEntered (s : State) (received : List Byte) : Ring := s.ring.cleanSeen.enter received

/-- The ring port once a service request has arrived. -/
def State.requestEntered (s : State) (op : ServiceOp) (env : Envelope) : Ring :=
  s.ringEntered (cleanFrameOf (serviceBody (requestFrame (BitVec.ofNat 8 (s.ring.straps.toNat + 1)) op env)))

/-- The ring port once a course frame has arrived. -/
def State.courseEntered (s : State) (f : CourseFrame) : Ring := s.ringEntered (cleanFrameOf (courseBody f))

/-- The ring port once a request that arrived has been answered with a reply (R175, R179). -/
def State.ringAnswered (s : State) (op : ServiceOp) (env : Envelope) (rep : Reply) : Ring :=
  (s.requestEntered op env).release s.ring.nextTicket (rep.chars .clean s.ring.address op env)

/-- The ring port once a course frame that arrived has been answered and sent as another (R176, R177). -/
def State.courseSent (s : State) (f g : CourseFrame) : Ring :=
  (s.courseEntered f).release s.ring.nextTicket (cleanFrameOf (courseBody g))

/-- The state with a request that arrived answered, and nothing else changed. -/
def State.answered (s : State) (op : ServiceOp) (env : Envelope) (rep : Reply) : State :=
  { s with ring := s.ringAnswered op env rep }

/-- The results that refuse a request (R180). -/
def Result.refuses : Result → Bool
  | .state | .range | .busy | .notReady | .unknownOp => true
  | .done | .started | .clamped | .eccFail => false

/-! ### The shaft -/

/-- The command of one forward or reverse increment: the next or the previous pair of the cycle of R1, with the index input. -/
def State.turn (s : State) (forward level : Bool) : Instr :=
  if forward then .increment (!s.tracker.levelB) s.tracker.levelA level
  else .increment s.tracker.levelB (!s.tracker.levelA) level

/-- Is the next sample taken as R1 says: no reset is active (R184), and no missing index is still to be taken (R12)? -/
def State.samples (s : State) : Prop :=
  s.inReset = false ∧ ¬(s.tracker.angleValid = true ∧ 1449 ≤ s.tracker.sinceIndex)

/-- Is an increment at this index level an index increment (R6)? -/
def State.indexRises (s : State) (level : Bool) : Prop := level = true ∧ s.tracker.indexWas = false

/-- The counter value that one increment gives (R2). -/
def State.turned (s : State) (forward : Bool) : Nat :=
  if forward then (if s.tracker.angle = 1439 then 0 else s.tracker.angle + 1)
  else (if s.tracker.angle = 0 then 1439 else s.tracker.angle - 1)

/-- Does an increment cross the course boundary: by the counter's wrap, but for the 1449th without an index (R166), or by an
index that finds it on the far side (R3, R7 to R9)? -/
def State.crossesBoundary (s : State) (forward level : Bool) : Prop :=
  s.tracker.angleValid = true
    ∧ if forward then (s.tracker.angle = 1439 ∧ (s.indexRises level ∨ s.tracker.sinceIndex < 1448))
          ∨ (s.indexRises level ∧ 720 ≤ s.turned true)
      else s.tracker.angle = 0 ∨ (s.indexRises level ∧ s.turned false ≤ 719)

/-- The node fault record once a report has reached it (R165). -/
def State.nodeRecord (s : State) (code : NodeCode) (tag : Option Word) (angle : Nat) : Option (FaultCapture NodeCode) :=
  match s.faults.node with
  | none => some ⟨code, tag, angle, false⟩
  | some c => some { c with repeated := true }

/-- A bar's fault record once a report has reached it (R165). -/
def State.barRecord (s : State) (n : BarIx) (code : BarCode) (tag : Option Word) (angle : Nat) :
    Option (FaultCapture BarCode) :=
  match s.faults.bars[n] with
  | none => some ⟨code, tag, angle, false⟩
  | some c => some { c with repeated := true }

/-- The node once HOLD and DESYNC have been taken in RUNNING, HOLD or CATCHUP (R134, R135, R137). -/
def Node.heldOutOfStep (n : Node) : Node :=
  { n with state := .hold, stopReq := true, desync := true, catchup := noTargets }

/-- Every bar as it was, but for its active trim. -/
def barsButTrims (s t : State) : Prop :=
  ∀ n : BarIx, t.bars[n] = { s.bars[n] with activeTrim := t.bars[n].activeTrim }

/-- Every bar as it was, with its pending trim active (R121). -/
def trimsActive (s t : State) : Prop :=
  ∀ n : BarIx, t.bars[n] = { s.bars[n] with activeTrim := s.bars[n].pendingTrim }

/-! ### Invariants -/

/-- The stop request follows the node state (R134), DESYNC is set in HOLD alone (R137), and catch-up targets are held in
CATCHUP alone (R135, R145, R146, R149). -/
def NodeInv (s : State) : Prop :=
  s.node.stopReq = s.node.state.asserts
    ∧ (s.node.desync = true → s.node.state = .hold)
    ∧ (s.node.state ≠ .catchup → s.node.catchup = noTargets)

/-- The tracker's values lie in the ranges of chapter 1. -/
def TrackerInv (s : State) : Prop :=
  s.tracker.angle ≤ 1439 ∧ s.tracker.recross ≤ 4 ∧ s.tracker.sinceIndex ≤ 1449 ∧ s.tracker.period ≤ 16777215
    ∧ s.tracker.tMeas ≤ 16777215 ∧ 2 ≤ s.tracker.timeout ∧ s.tracker.timeout ≤ 255

/-- The word array is in canonical form (entry 20) and the corrected count is at most 255 (R28). -/
def StoreInv (s : State) : Prop := s.store.words.wf = true ∧ s.store.corrected ≤ 255

/-- Course tags that follow one another modulo 65536. -/
def consecutive : List Word → Prop
  | a :: b :: rest => b = a + 1 ∧ consecutive (b :: rest)
  | _ => True

/-- What the three places hold in each node state (R74). -/
def placesFit (st : NodeState) (q : Queue) : Prop :=
  match st with
  | .offline => q.history = [] ∧ q.current = none ∧ q.pending = []
  | .armed => q.history.length = 1 ∧ q.current = none
  | .running | .hold | .catchup => q.current.isSome = true

/-- The places are no fuller than R74 allows and hold what the node state requires, the held tags are consecutive, and the
next expected tag follows the newest of them (R74, R75). -/
def QueueInv (s : State) : Prop :=
  s.queue.history.length ≤ 8 ∧ s.queue.pending.length ≤ 16
    ∧ placesFit s.node.state s.queue
    ∧ consecutive (s.queue.held.map CourseRecord.tag)
    ∧ s.queue.expected = s.queue.newest.map (fun r => r.tag + 1)

/-- The class's active table holds the move times of its committed ramp at its steps per needle (R63). -/
def DriveClass.agrees (k : DriveClass) : Prop := ∃ r, k.ramp = some r ∧ k.table = some (moveTable r k.spn)

/-- A ramp entry as clamped: 20..65535 timebase counts (R59). -/
def rampPeriod (p : Nat) : Prop := 20 ≤ p ∧ p ≤ 65535

/-- A class's parameters and committed ramp lie in their ranges, and a VALID class agrees with its table (R56, R59, R63). -/
def DriveClass.inv (k : DriveClass) : Prop :=
  4 ≤ k.spn ∧ k.spn ≤ 64 ∧ 1 ≤ k.length ∧ k.length ≤ 32
    ∧ (∀ r, k.ramp = some r → 1 ≤ r.length ∧ r.length ≤ 32 ∧ ∀ p ∈ r, rampPeriod p)
    ∧ (k.state = .valid → k.agrees)

/-- The commit in flight holds its class COMPUTING with the parameters it took (R65, R69), and its entries so far (R66). -/
def Commit.inv (j : Commit) (k : DriveClass) : Prop :=
  k.state = .computing ∧ j.prior ≠ .computing ∧ j.spn = k.spn ∧ j.length = k.length
    ∧ (j.prior = .valid → k.agrees)
    ∧ (∀ p ∈ j.fetched, rampPeriod p)
    ∧ (match j.stage with
      | .fetching => j.fetched.length < j.length
      | .computing _ => j.fetched.length = j.length)

/-- The drive classes and the commit in flight (chapter 4). -/
def EngineInv (s : State) : Prop :=
  (∀ c : ClassIx, s.engine.classes[c].inv)
    ∧ (∀ c : ClassIx, s.engine.classes[c].state = .computing → ∃ j, s.engine.commit = some j ∧ j.cls = c)
    ∧ (∀ j, s.engine.commit = some j → j.inv s.engine.classes[j.cls])

/-- One bar's record (R112, R113, R116): unreferenced, its position and target are 0; STILL, it stands at its target with
none to follow; MOVING while referenced, the pulses still to come bring it to its target; a next target is held by a
referenced bar alone; SEARCHING, it is in JOG mode with no next target. -/
def Bar.inv (b : Bar) : Prop :=
  (b.referenced = false → b.pos = 0 ∧ b.target = 0 ∧ b.next = none)
    ∧ (match b.motion with
      | .still => b.target = b.pos ∧ b.next = none
      | .moving m => m.emitted ≤ m.steps
          ∧ (b.referenced = true → if m.up then b.target = b.pos + (m.steps - m.emitted)
                                   else b.pos = b.target + (m.steps - m.emitted))
      | .searching _ => b.mode = .jog ∧ b.next = none)

/-- A referenced bar's position and targets lie between 0 and its travel limit times the steps per needle of its class
(R112). -/
def Bar.withinTravel (b : Bar) (spn : Nat) : Prop :=
  b.referenced = true →
    b.pos ≤ b.limit * spn ∧ b.target ≤ b.limit * spn ∧ (∀ t, b.next = some t → t ≤ b.limit * spn)

/-- A plan's positions lie within a travel limit (R50). -/
def BarPlan.within (p : BarPlan) (limit : Nat) : Prop := p.lead ≤ limit ∧ p.trail ≤ limit

/-- Every bar's record with its travel, and outside OFFLINE every MOTION bar is referenced (R109, R112, R140). Targets come
from the records held and from the expansion in progress, whose positions lie within the travel limits (R50, R76, R111). -/
def BarsInv (s : State) : Prop :=
  (∀ n : BarIx, s.bars[n].inv ∧ s.bars[n].withinTravel (s.classOf s.bars[n]).spn
      ∧ (s.node.state ≠ .offline → s.bars[n].mode = .motion → s.bars[n].referenced = true))
    ∧ (s.node.state ≠ .offline → ∀ r ∈ s.queue.held, ∀ n : BarIx, r.plans[n].within s.bars[n].limit)
    ∧ (∀ j, s.expander.job = some j → ∀ n : BarIx, j.limits[n] = s.bars[n].limit ∧ j.plans[n].within s.bars[n].limit)

end Machine

end Sys2Proof
end

