-- ==== Sys2Proof/WellFormed.lean ====
section
/-!
DEFINITION. When a command is well formed: what the spec's layouts admit. An ill-formed command stands for nothing the
outside world can send; `exec` is total on it all the same.
-/

namespace Sys2Proof

/-- A course frame's override count is one byte (12.1). -/
def CourseFrame.wf (f : CourseFrame) : Bool := f.overrides.length ≤ 255

/-- A service frame carries at most 32 data words (R173). -/
def ServiceFrame.wf (f : ServiceFrame) : Bool := f.data.length ≤ 32

/-- A request's envelope carries at most 32 data words (R173). -/
def Envelope.wf (e : Envelope) : Bool := e.data.length ≤ 32

/-- Were the characters judged clean (R174)? -/
def Machine.Judgement.isClean : Machine.Judgement → Bool
  | .cleanCourse _ | .cleanService _ => true
  | _ => false

/-- Does an op byte name no operation (12.2)? -/
def opUnknown (op : Byte) : Bool := op == 0 || 14 < op.toNat

/-- A service operation whose bytes are those of its case: only an op, or an identity, outside the tables is unknown. -/
def ServiceOp.wf : ServiceOp → Bool
  | .unknownOp op => opUnknown op
  | .unknownParameter identity _ _ => !Machine.knownIdentity identity
  | _ => true

/-- Well-formed commands. -/
def Instr.wf : Instr → Bool
  | .courseFrame f => f.wf
  | .serviceFramePass f => f.wf
  | .corruptFrame chars => !(Machine.judge chars).isClean
  | .load env _ _ => env.wf
  | .read env _ _ => env.wf
  | .getParam env _ _ => env.wf
  | .setRowCount env _ _ => env.wf
  | .setMargin env _ => env.wf
  | .setStandstillTimeout env _ => env.wf
  | .setWindow env _ _ => env.wf
  | .setGuardEnable env _ => env.wf
  | .setDiagnosticCheckMode env _ => env.wf
  | .setDiagnosticCheckValue env _ => env.wf
  | .setStepsPerNeedle env _ _ => env.wf
  | .setRampLength env _ _ => env.wf
  | .setMode env _ _ => env.wf
  | .setClass env _ _ => env.wf
  | .setLapSet env _ _ => env.wf
  | .setTravelLimit env _ _ => env.wf
  | .setTrim env _ _ => env.wf
  | .setHomePosition env _ _ => env.wf
  | .setHomePolarity env _ _ => env.wf
  | .commitClass env _ => env.wf
  | .arm env _ => env.wf
  | .disarm env => env.wf
  | .resume env => env.wf
  | .restart env => env.wf
  | .jog env _ _ => env.wf
  | .reference env _ _ => env.wf
  | .getStatus env _ _ _ => env.wf
  | .getFaults env => env.wf
  | .clearFault env _ _ => env.wf
  | .unknownOp env op => env.wf && opUnknown op
  | .unknownParameter env identity _ _ => env.wf && !Machine.knownIdentity identity
  | .powerOn _ _ _ _ => true
  | .pinReset => true
  | .resetEnd _ _ _ => true
  | .increment _ _ _ => true
  | .indexMissing => true
  | .standstillExpiry => true
  | .storeClearDone => true
  | .wordAccessComplete => true
  | .commitSwap => true
  | .expansionComplete => true
  | .stepPulse _ => true
  | .stepPulseEnd _ => true
  | .moveComplete _ => true
  | .searchSample _ _ => true
  | .ringBreak => true
  | .ringSilence => true
  | .deferredServiceOp _ => true

end Sys2Proof
end

