-- ==== Sys2Proof/Certificates/Slice0/Obligations.lean ====
section
/-!
DEFINITION. What is claimed of the node, for the provers: the step, the resets, the shaft and its boundaries, the bars, the
store, the classes, planning, course frames, the ring, the service operations, and what every step keeps.
-/

section Statements

open Sys2Proof Sys2Proof.Machine

/-! ### The step -/

/-- A step takes the command at the front of the queue and runs it with the queue's rest (the block's convention). -/
def Obligations.StepRunsFront : Prop :=
  ∀ (c : Instr) (s : State) (rest : List Instr), step { s with pending := c :: rest } = exec c { s with pending := rest }

/-- On an empty queue (MODEL'S CHOICE, entry 2): where an index is overdue (R12), an expansion has no fetch left (R46), or a
held request finds the service path free (R34), those events are queued and no time passes. Otherwise one timebase count
passes: the period counter rises and saturates (R16), the one-shot, the power-on clear, each move's and search's period and
each step pulse lose one count, the silence watch and the computation stage gain one, every fourth count of that stage adds
an entry to the shadow table (R67), and nothing else of the node changes. The events queued are exactly those whose time
ends: the one-shot's (R14), the clear's last word of 66,688 (R31), the access in progress (R23), the 256 counts of the
computation stage (R67), a period after a pulse, which gives the next pulse or the move's completion (R115, R116), a search
period (R158), a step pulse of 10 counts (R110), the silence watch's 1,000,000 counts (R183). -/
def Obligations.IdleStepPassesTime : Prop :=
  ∀ s : State, s.pending = [] →
    let overdue := s.tracker.angleValid = true ∧ 1449 ≤ s.tracker.sinceIndex
    let complete := ∃ j, s.expander.job = some j ∧ j.todo = []
    let free := s.ring.deferred ≠ [] ∧ s.store.staging = [] ∧ s.store.read = none ∧ s.expander.job = none
    ∃ t, step s = .next t ∧ t.pending.Nodup
      ∧ (overdue ∨ complete ∨ free →
          t = { s with pending := t.pending, choices := t.choices }
          ∧ ∀ e, e ∈ t.pending ↔ (e = .indexMissing ∧ overdue) ∨ (e = .expansionComplete ∧ complete)
              ∨ (e = .deferredServiceOp s.homes ∧ free))
      ∧ (¬(overdue ∨ complete ∨ free) →
          t = { s with
            tracker := { s.tracker with
              period := min 16777215 (s.tracker.period + 1), oneShot := s.tracker.oneShot.map (· - 1) }
            store := { s.store with clearLeft := s.store.clearLeft - 1 }
            engine := { s.engine with commit := t.engine.commit }
            bars := t.bars
            ring := { s.ring with silence := s.ring.silence.map (· + 1) }
            pending := t.pending
            choices := t.choices }
          ∧ (∀ n : BarIx, t.bars[n] = { s.bars[n] with
              pulseLeft := s.bars[n].pulseLeft - 1
              motion := match s.bars[n].motion with
                | .still => .still
                | .moving m => .moving { m with left := m.left - 1 }
                | .searching x => .searching { x with left := x.left - 1 } })
          ∧ (s.engine.commit = none → t.engine.commit = none)
          ∧ (∀ j, s.engine.commit = some j → j.stage = .fetching → t.engine.commit = some j)
          ∧ (∀ j k, s.engine.commit = some j → j.stage = .computing k →
              t.engine.commit = some { j with
                stage := .computing (k + 1)
                shadow := if (k + 1) % 4 = 0 ∧ j.shadow.length < 64
                          then j.shadow ++ [moveTime j.fetched (j.shadow.length * j.spn)] else j.shadow })
          ∧ ∀ e, e ∈ t.pending ↔
              (e = .standstillExpiry ∧ ∃ k, s.tracker.oneShot = some k ∧ k ≤ 1)
              ∨ (e = .storeClearDone ∧ s.store.state = .clearing ∧ s.store.clearLeft ≤ 1)
              ∨ (e = .wordAccessComplete ∧ s.store.access ≠ none)
              ∨ (e = .commitSwap ∧ ∃ j k, s.engine.commit = some j ∧ j.stage = .computing k ∧ 256 ≤ k + 1)
              ∨ (e = .ringSilence ∧ ∃ k, s.ring.silence = some k ∧ 1000000 ≤ k + 1)
              ∨ (∃ (n : BarIx) (m : Move), s.bars[n].motion = .moving m ∧ m.left ≤ 1
                  ∧ e = if m.emitted < m.steps then .stepPulse n else .moveComplete n)
              ∨ (∃ (n : BarIx) (x : Search), s.bars[n].motion = .searching x ∧ x.left ≤ 1 ∧ e = .searchSample n s.homes)
              ∨ (∃ n : BarIx, s.bars[n].step = true ∧ s.bars[n].pulseLeft ≤ 1 ∧ e = .stepPulseEnd n))

/-! ### Resets -/

/-- Power-on puts every block in its reset state, with the straps and the levels A and B read (R18, R30, R36, R38, R73, R77,
R107, R120, R132, R151, R156, R171, R178, R183, R184); the waiting commands and the choice counter stay (MODEL'S CHOICE,
entry 25). -/
def Obligations.PowerOnResetsEveryBlock : Prop :=
  ∀ (straps : BitVec 3) (a b : Bool) (homes : BitVec 16) (s : State),
    ∃ t, exec (.powerOn straps a b homes) s = .next t
      ∧ t.tracker.angle = 0 ∧ t.tracker.angleValid = false ∧ t.tracker.dir = .stopped ∧ t.tracker.recross = 0
      ∧ t.tracker.sinceIndex = 0 ∧ t.tracker.oneShot = none ∧ t.tracker.timeout = 20 ∧ t.tracker.period = 0
      ∧ t.tracker.spoiled = false ∧ t.tracker.tMeas = 16777215 ∧ t.tracker.levelA = a ∧ t.tracker.levelB = b
      ∧ t.store.state = .clearing ∧ t.store.clearLeft = 66688 ∧ t.store.access = none ∧ t.store.staging = []
      ∧ t.store.read = none ∧ t.store.capture = none ∧ t.store.corrected = 0 ∧ t.store.diagMode = false
      ∧ t.store.diagValue = 0 ∧ t.store.waitExpander = false ∧ t.store.waitService = false ∧ t.store.waitEngine = false
      ∧ t.expander = { rowCountA := 4096, rowCountB := 4096, job := none }
      ∧ (∀ c : ClassIx, t.engine.classes[c]
          = { spn := 20, length := 8, state := .invalid, ramp := none, table := none, outcome := .none })
      ∧ t.engine.commit = none
      ∧ t.queue = { history := [], current := none, pending := [], expected := none, dueCheck := none }
      ∧ (∀ n : BarIx, t.bars[n]
          = { mode := .parked, referenced := false, pos := 0, motion := .still, target := 0, next := none, cls := 0,
              lapSet := 0, limit := 63, activeTrim := 0, pendingTrim := 0, homePos := 0, homePol := .activeLow,
              enable := false, step := false, dirHigh := false, pulseLeft := 0 })
      ∧ t.node = { state := .offline, desync := false, stopReq := true, catchup := noTargets, guardEnable := false,
                   us := 200, ul := 280, os := 560, ol := 96, margin := 16 }
      ∧ t.faults.node = none ∧ (∀ n : BarIx, t.faults.bars[n] = none)
      ∧ t.ring.straps = straps ∧ t.ring.up = false ∧ t.ring.silence = none ∧ t.ring.forwarding = []
      ∧ t.ring.waiting = [] ∧ t.ring.deferred = [] ∧ t.ring.sent = []
      ∧ t.homes = homes ∧ t.inReset = false ∧ t.pending = s.pending ∧ t.choices = s.choices

/-- A pin reset leaves the blocks as power-on does, but the store keeps its words and its state, an access in progress runs
on without its client (R36; MODEL'S CHOICE, entry 18), and every direction output keeps its level (R71, R77, R119, R132,
R151). The forwarding store is emptied; a frame partly sent is cut short (R184): of a course frame whose verdict is not known
the characters before its first status slot have left, of a request for this node whose reply is not formed its start
character (R175). The frames sent before stay in the model's record of the output (MODEL'S CHOICE, entry 12). While the reset
input is active increments and ring traffic do nothing (R184; MODEL'S CHOICE, entry 24). At its end the straps and the levels
A and B are read and the period counter restarts (R18, R178, R184). -/
def Obligations.PinResetAndItsEnd : Prop :=
  ∀ s : State, ∃ r, exec .pinReset s = .next r
    ∧ r.tracker = Tracker.initial s.tracker.levelA s.tracker.levelB
    ∧ r.store = { Store.initial with
        words := s.store.words, state := s.store.state, clearLeft := s.store.clearLeft,
        access := s.store.access.map fun a => { a with orphan := true } }
    ∧ r.expander = .initial ∧ r.engine = .initial ∧ r.queue = .initial ∧ r.node = .initial ∧ r.faults = .initial
    ∧ (∀ n : BarIx, r.bars[n] = { Bar.initial with dirHigh := s.bars[n].dirHigh })
    ∧ r.ring.up = false ∧ r.ring.silence = none ∧ r.ring.forwarding = [] ∧ r.ring.waiting = [] ∧ r.ring.deferred = []
    ∧ (s.ring.forwarding = [] → r.ring.sent = s.ring.sent)
    ∧ (∀ (f : CourseFrame) ticket rest, f.overrides.length ≤ 255 →
        s.ring.forwarding = { ticket := ticket, received := cleanFrameOf (courseBody f), chars := none } :: rest →
        r.ring.sent = s.ring.sent ++ [(cleanFrameOf (courseBody f)).take (8 + 3 * f.overrides.length)])
    ∧ (∀ (f : ServiceFrame) ticket rest, f.reply = false → f.dest.toNat = s.ring.straps.toNat + 1 →
        s.ring.forwarding = { ticket := ticket, received := cleanFrameOf (serviceBody f), chars := none } :: rest →
        r.ring.sent = s.ring.sent ++ [[165]])
    ∧ r.inReset = true
    ∧ (∀ a b level : Bool, exec (.increment a b level) r = .next r)
    ∧ (∀ f : CourseFrame, exec (.courseFrame f) r = .next r)
    ∧ (∀ f : ServiceFrame, exec (.serviceFramePass f) r = .next r)
    ∧ (∀ cs : List RxChar, exec (.corruptFrame cs) r = .next r)
    ∧ (∀ (c : Instr) (op : ServiceOp) (env : Envelope), c.request = some (op, env) →
        exec c r = .next { r with homes := c.homesSeen r.homes })
    ∧ (∀ (straps : BitVec 3) (a b : Bool), exec (.resetEnd straps a b) r
        = .next { r with
            tracker := Tracker.initial a b
            ring := { r.ring with straps := straps }
            inReset := false })

/-- The state right after reset meets every invariant stated below; its values that the spec does not give are the MODEL'S
CHOICE (entries 7, 9, 10, 20). -/
def Obligations.ResetMeetsInvariants : Prop :=
  NodeInv State.reset ∧ TrackerInv State.reset ∧ StoreInv State.reset ∧ QueueInv State.reset ∧ EngineInv State.reset
    ∧ BarsInv State.reset

/-- R42: a node of address a owns the global bar numbers (a - 1) x 16 to (a - 1) x 16 + 15, which name its local bars in
order; any other number, and so each of 128..255, names none of its bars; the address is read from the straps at power-on
and at a pin reset's end alone. -/
def Obligations.GlobalBarNumbers : Prop :=
  (∀ (s : State) (g : Byte) (l : BarIx),
      localBar s.ring.address g = some l ↔ g.toNat = (s.ring.address - 1) * 16 + l.val)
    ∧ (∀ (s : State) (g : Byte), localBar s.ring.address g = none
        ↔ g.toNat < (s.ring.address - 1) * 16 ∨ (s.ring.address - 1) * 16 + 15 < g.toNat)
    ∧ (∀ (s : State) (g : Byte), 128 ≤ g.toNat → localBar s.ring.address g = none)
    ∧ (∀ s : State, s.ring.address = s.ring.straps.toNat + 1)
    ∧ (∀ (c : Instr) (s t : State), exec c s = .next t →
        (∀ straps a b homes, c ≠ .powerOn straps a b homes) → (∀ straps a b, c ≠ .resetEnd straps a b) →
        t.ring.address = s.ring.address)
    ∧ (∀ straps a b homes s t, exec (.powerOn straps a b homes) s = .next t → t.ring.address = straps.toNat + 1)
    ∧ (∀ straps a b s t, exec (.resetEnd straps a b) s = .next t → t.ring.address = straps.toNat + 1)

/-- R171: power-on and a pin reset leave every fault record and the capture record empty and the corrected count 0, and so
does a RESTART that is taken; one that is refused BUSY leaves them; after each of them a status slot's attention flags are
clear. -/
def Obligations.FaultRecordsAfterResets : Prop :=
  let cleared := fun t : State => t.faults.node = none ∧ (∀ n : BarIx, t.faults.bars[n] = none) ∧ t.store.capture = none
    ∧ t.store.corrected = 0 ∧ t.node.desync = false ∧ ∀ v : Verdict, (t.slot v).attention = 0
  (∀ straps a b homes s, ∃ t, exec (.powerOn straps a b homes) s = .next t ∧ cleared t)
    ∧ (∀ s, ∃ t, exec .pinReset s = .next t ∧ cleared t)
    ∧ (∀ (env : Envelope) (s : State), s.takesService → env.data = [] →
        (∀ n : BarIx, s.bars[n].motion = .still) → s.engine.commit = none →
        ∃ t, exec (.restart env) s = .next t ∧ cleared t)
    ∧ (∀ (env : Envelope) (s : State), s.takesService → env.data = [] →
        (∃ n : BarIx, s.bars[n].motion ≠ .still) ∨ s.engine.commit.isSome →
        ∃ t, exec (.restart env) s = .next t ∧ t.faults = s.faults ∧ t.store = s.store
          ∧ t.ring = s.ringAnswered .restart env (.only .busy))

/-! ### The shaft -/

/-- An increment that is no index increment moves the counter, the direction, the re-cross count and the increments since
index, and restarts the standstill one-shot; a sample equal to the reference takes nothing and a double change is only
adopted (R1, R2, R10, R12, R13, R14, R16). -/
def Obligations.OrdinaryIncrement : Prop :=
  ∀ s : State, s.samples →
    (∀ level, exec (.increment s.tracker.levelA s.tracker.levelB level) s = .next s)
    ∧ (∀ level, exec (.increment (!s.tracker.levelA) (!s.tracker.levelB) level) s
        = .next { s with tracker := { s.tracker with levelA := !s.tracker.levelA, levelB := !s.tracker.levelB } })
    ∧ ∀ forward level, ¬ s.indexRises level →
      ∃ t, exec (s.turn forward level) s = .next t
        ∧ t.tracker = { s.tracker with
            levelA := if forward then !s.tracker.levelB else s.tracker.levelB
            levelB := if forward then s.tracker.levelA else !s.tracker.levelA
            angle := s.turned forward
            dir := if forward then .forward else .reverse
            recross := if 0 < s.tracker.recross ∧ s.tracker.recrossForward = forward then s.tracker.recross - 1 else 0
            sinceIndex := if s.tracker.angleValid = false then 0
                          else if forward then s.tracker.sinceIndex + 1 else s.tracker.sinceIndex - 1
            oneShot := some (s.tracker.timeout * 100000)
            spoiled := s.tracker.spoiled || !forward
            indexWas := level }
        ∧ t.store = s.store ∧ t.expander = s.expander ∧ t.engine = s.engine ∧ t.ring = s.ring ∧ t.homes = s.homes
        ∧ t.inReset = s.inReset ∧ t.pending = s.pending
        ∧ (∀ n : BarIx, t.bars[n].mode = s.bars[n].mode ∧ t.bars[n].referenced = s.bars[n].referenced
            ∧ t.bars[n].enable = s.bars[n].enable ∧ t.bars[n].pendingTrim = s.bars[n].pendingTrim)

/-- An index increment corrects the counter and resets the increments since index (R6 to R12); a forward one captures the
revolution period (R16); the first one while the angle is invalid makes it valid (R11). -/
def Obligations.IndexIncrement : Prop :=
  ∀ (s : State) (forward : Bool), s.samples → s.tracker.indexWas = false →
    ∃ t, exec (s.turn forward true) s = .next t
      ∧ t.tracker.angleValid = true ∧ t.tracker.sinceIndex = 0 ∧ t.tracker.indexWas = true
      ∧ t.tracker.dir = (if forward then .forward else .reverse)
      ∧ t.tracker.oneShot = some (s.tracker.timeout * 100000) ∧ t.tracker.timeout = s.tracker.timeout
      ∧ (s.tracker.angleValid = true → forward = true →
          t.tracker.angle = 0 ∧ t.tracker.recross = (if s.turned true ≤ 4 then s.turned true else 0)
          ∧ (t.tracker.recross ≠ 0 → t.tracker.recrossForward = true)
          ∧ t.tracker.tMeas = (if s.tracker.spoiled then 16777215 else s.tracker.period)
          ∧ t.tracker.period = 0 ∧ t.tracker.spoiled = false)
      ∧ (s.tracker.angleValid = true → forward = false →
          t.tracker.angle = 1439 ∧ t.tracker.recross = (if 1435 ≤ s.turned false then 1439 - s.turned false else 0)
          ∧ (t.tracker.recross ≠ 0 → t.tracker.recrossForward = false)
          ∧ t.tracker.tMeas = s.tracker.tMeas ∧ t.tracker.period = s.tracker.period ∧ t.tracker.spoiled = true)
      ∧ (s.tracker.angleValid = false → forward = true →
          t.tracker.angle = 0 ∧ t.tracker.recross = 0 ∧ t.tracker.tMeas = 16777215 ∧ t.tracker.period = 0
          ∧ t.tracker.spoiled = false)
      ∧ (s.tracker.angleValid = false → forward = false →
          t.tracker.angle = 1439 ∧ t.tracker.recross = 0 ∧ t.tracker.tMeas = s.tracker.tMeas
          ∧ t.tracker.period = s.tracker.period ∧ t.tracker.spoiled = true)
      ∧ (s.tracker.angleValid = false → s.node.state ≠ .catchup →
          t.queue = s.queue ∧ t.bars = s.bars ∧ t.faults = s.faults ∧ t.node = s.node)

/-- An index found outside the tolerance is an index slip: INDEX_SLIP is reported with the counter value found and the tag
current then, before any boundary of the increment; HOLD and DESYNC follow in RUNNING and HOLD, no change of state in
OFFLINE (R9, R138, R165, R166). -/
def Obligations.IndexSlipReported : Prop :=
  ∀ (s : State) (forward : Bool), s.samples → s.tracker.indexWas = false → s.tracker.angleValid = true →
    (forward = true → 5 ≤ s.turned true ∧ s.turned true ≤ 1435) →
    (forward = false → 4 ≤ s.turned false ∧ s.turned false ≤ 1434) →
    ∃ t, exec (s.turn forward true) s = .next t
      ∧ (s.faults.node = none → s.node.state ≠ .catchup →
          ∃ c, t.faults.node = some c ∧ c.code = .indexSlip ∧ c.tag = s.currentTag ∧ c.angle = s.turned forward)
      ∧ (s.node.state = .running ∨ s.node.state = .hold ∨ s.node.state = .catchup →
          t.node.state = .hold ∧ t.node.desync = true)
      ∧ (s.node.state = .offline → t.node = s.node ∧ t.queue = s.queue)

/-- INDEX_MISSING and the standstill expiry (R12, R14, R138, R166): with the angle valid and 1449 increments since index, the
fault is reported with the tag current then, the angle becomes invalid, and HOLD and DESYNC are taken in RUNNING, HOLD and
CATCHUP. The increment that brings the count to 1449 and wraps the counter leaves its boundary until then; the fault is
handed over before it (R166), and the boundary then acts as in HOLD (MODEL'S CHOICE, entry 32); in ARMED no boundary reaches
the queue and the node stays ARMED (R138). A running one-shot that expires leaves the direction STOPPED and T_meas
saturated. -/
def Obligations.IndexMissingAndStandstill : Prop :=
  (∀ s : State, s.tracker.angleValid = true → 1449 ≤ s.tracker.sinceIndex →
      let lost := { s.tracker with angleValid := false, sinceIndex := 0, recross := 0 }
      let noted := s.nodeRecord .indexMissing s.currentTag s.tracker.angle
      (s.tracker.angle ≠ 0 ∨ s.node.state = .offline ∨ s.node.state = .armed →
        ∃ n, exec .indexMissing s = .next { s with tracker := lost, faults := { s.faults with node := noted }, node := n }
          ∧ (s.node.state = .offline ∨ s.node.state = .armed → n = s.node)
          ∧ (s.node.state = .running ∨ s.node.state = .catchup → n = s.node.heldOutOfStep)
          ∧ (s.node.state = .hold → n = { s.node with desync := true }))
      ∧ (s.tracker.angle = 0 → s.node.state = .running ∨ s.node.state = .hold ∨ s.node.state = .catchup →
        ∃ t, exec .indexMissing s = .next t ∧ t.tracker = lost ∧ trimsActive s t ∧ t.faults.bars = s.faults.bars
          ∧ t.node = (if s.node.state = .hold then { s.node with desync := true } else s.node.heldOutOfStep)
          ∧ (∀ head rest, s.queue.pending = head :: rest → t.faults.node = noted
              ∧ t.queue = { s.queue with
                  history := (match s.queue.current with
                    | some cur => (if 8 ≤ s.queue.history.length then s.queue.history.drop 1 else s.queue.history) ++ [cur]
                    | none => s.queue.history)
                  current := some head
                  pending := rest })
          ∧ (s.queue.pending = [] → t.queue = s.queue
              ∧ ∃ c, noted = some c ∧ t.faults.node = some { c with repeated := true })))
    ∧ (∀ (s : State) (level : Bool), s.samples → s.tracker.angleValid = true → ¬ s.indexRises level →
      s.tracker.sinceIndex = 1448 → s.tracker.angle = 1439 → s.node.state ≠ .catchup →
      ∃ t, exec (s.turn true level) s = .next t ∧ t.tracker.angle = 0 ∧ t.tracker.sinceIndex = 1449
        ∧ t.tracker.angleValid = true ∧ t.queue = s.queue ∧ t.bars = s.bars ∧ t.node = s.node ∧ t.faults = s.faults)
    ∧ (∀ (s : State) (k : Nat), s.tracker.oneShot = some k →
      exec .standstillExpiry s
        = .next { s with tracker := { s.tracker with oneShot := none, dir := .stopped, tMeas := 16777215 } })

/-! ### Course boundaries -/

/-- In HOLD and CATCHUP the queue follows the forward shaft (R3, R7, R9, R86, R88, R89, R121, R147): an increment crosses the
boundary when the counter wraps (but for the 1449th without an index, whose boundary follows INDEX_MISSING, R166), or when an
index finds it at 720 or above; the pending head then becomes current, the current record goes to the newest end of the
history, whose oldest is dropped when it holds 8, and the trims become active; with nothing pending the records stay, DESYNC
is set and, where no index slip came first, HOLD_CROSSING is reported in HOLD with angle 0. Any other increment leaves the
queue, no increment moves a bar, and the node ends in HOLD. -/
def Obligations.HoldFollowsForward : Prop :=
  ∀ (s : State) (level : Bool) (cur : CourseRecord), s.samples → s.tracker.angleValid = true →
    s.node.state = .hold ∨ s.node.state = .catchup → s.queue.current = some cur →
    let crosses := (s.tracker.angle = 1439 ∧ (s.indexRises level ∨ s.tracker.sinceIndex < 1448))
      ∨ (s.indexRises level ∧ 720 ≤ s.turned true)
    ∃ t, exec (s.turn true level) s = .next t ∧ t.node.state = .hold ∧ barsButTrims s t ∧ t.faults.bars = s.faults.bars
      ∧ (crosses →
          trimsActive s t
          ∧ (∀ head rest, s.queue.pending = head :: rest →
              t.queue = { s.queue with
                history := (if 8 ≤ s.queue.history.length then s.queue.history.drop 1 else s.queue.history) ++ [cur]
                current := some head
                pending := rest })
          ∧ (s.queue.pending = [] → t.queue = s.queue ∧ t.node.desync = true ∧ t.faults.node ≠ none
              ∧ (s.node.state = .hold → (s.indexRises level → s.turned true ≤ 4 ∨ 1436 ≤ s.turned true) →
                t.faults = { s.faults with node := s.nodeRecord .holdCrossing (some cur.tag) 0 })))
      ∧ (¬ crosses → t.queue = s.queue ∧ t.bars = s.bars)

/-- In HOLD and CATCHUP the queue follows the reverse shaft (R3, R8, R9, R86, R90, R91, R92, R147, R166): an increment
crosses the boundary when the counter wraps, or when an index finds it at 719 or below; the current record then returns to
the pending head and the newest of the history becomes current, after the tail of a list of 16 is discarded, whose tag is
then expected next; with an empty history the records stay, DESYNC is set and, where no index slip came first,
RETRACE_EXHAUSTED is reported in HOLD with angle 1439. No reverse increment changes a trim or moves a bar, and the node ends
in HOLD. -/
def Obligations.HoldFollowsReverse : Prop :=
  ∀ (s : State) (level : Bool) (cur : CourseRecord), s.samples → s.tracker.angleValid = true →
    s.node.state = .hold ∨ s.node.state = .catchup → s.queue.current = some cur →
    ∃ t, exec (s.turn false level) s = .next t ∧ t.node.state = .hold ∧ t.bars = s.bars ∧ t.faults.bars = s.faults.bars
      ∧ (s.tracker.angle = 0 ∨ (s.indexRises level ∧ s.turned false ≤ 719) →
          (∀ older newest, s.queue.history = older ++ [newest] →
            (s.queue.pending.length < 16 → t.queue = { s.queue with
                history := older, current := some newest, pending := cur :: s.queue.pending })
            ∧ (∀ keep tail, s.queue.pending = keep ++ [tail] → 16 ≤ s.queue.pending.length → t.queue = { s.queue with
                history := older, current := some newest, pending := cur :: keep, expected := some tail.tag }))
          ∧ (s.queue.history = [] → t.queue = s.queue ∧ t.node.desync = true ∧ t.faults.node ≠ none
              ∧ (s.node.state = .hold → (s.indexRises level → s.turned false ≤ 3 ∨ 1435 ≤ s.turned false) →
                t.faults = { s.faults with node := s.nodeRecord .retraceExhausted (some cur.tag) 1439 })))
      ∧ (¬(s.tracker.angle = 0 ∨ (s.indexRises level ∧ s.turned false ≤ 719)) → t.queue = s.queue)

/-- A forward boundary in RUNNING, or in ARMED with a record pending, steps the queue, makes the trims active and makes the
due check on the new current record: it passes when T_meas is saturated or T_meas x 256 is at least T_min x (256 + margin); a
failing one reports UNFIT with angle 0 and takes HOLD (R87, R88, R106, R107, R121, R142). It comes with the counter's wrap; an
index at the wrap is exact, an index found at 1436 to 1439 brings the boundary with it (R3, R7), and either captures T_meas,
which the check reads as before or as after (R16, R17; which of the two is free, entry 6). An index found at 720 to 1435 is
a slip that brings the boundary too: the queue steps in HOLD with no due check, or in ARMED starts the run (R9, R86, R138).
Without the guard enable, crossings before a late boundary leave all this; with it a guard may take HOLD first (R86). -/
def Obligations.BoundaryMakesDueCheck : Prop :=
  ∀ (s : State) (level : Bool) (head : CourseRecord) (rest : List CourseRecord),
    s.samples → s.tracker.angleValid = true → s.queue.pending = head :: rest →
    (s.node.state = .running ∧ s.queue.current.isSome = true) ∨ (s.node.state = .armed ∧ s.queue.current = none) →
    let stepped := { s.queue with
      history := (match s.queue.current with
        | some cur => (if 8 ≤ s.queue.history.length then s.queue.history.drop 1 else s.queue.history) ++ [cur]
        | none => s.queue.history)
      current := some head
      pending := rest }
    let passes := fun tMeas : Nat => tMeas = 16777215 ∨ head.tMin * (256 + s.node.margin) ≤ tMeas * 256
    let captured := if s.tracker.spoiled then 16777215 else s.tracker.period
    let checked := fun (t : State) (tMeas : Nat) (noted : Option (FaultCapture NodeCode)) =>
      t.queue = { stepped with dueCheck := some {
          tag := head.tag, tMeas := tMeas, tMin := head.tMin, margin := s.node.margin, pass := decide (passes tMeas) } }
        ∧ (passes tMeas →
            t.node = { s.node with state := .running, stopReq := if s.node.state = .armed then false else s.node.stopReq }
            ∧ t.faults.node = noted)
        ∧ (¬ passes tMeas →
            t.node = { s.node with state := .hold, stopReq := true, catchup := noTargets }
            ∧ t.faults.node = { s with faults := { s.faults with node := noted } }.nodeRecord .unfit (some head.tag) 0)
    (s.tracker.angle = 1439 → ¬ s.indexRises level → s.tracker.sinceIndex < 1448 →
      ∃ t, exec (s.turn true level) s = .next t ∧ trimsActive s t ∧ t.faults.bars = s.faults.bars
        ∧ checked t s.tracker.tMeas s.faults.node)
    ∧ (s.indexRises level → 1435 ≤ s.tracker.angle → s.tracker.angle ≤ 1439 →
      ∃ t, exec (s.turn true level) s = .next t ∧ t.queue = { stepped with dueCheck := t.queue.dueCheck }
        ∧ (∀ n : BarIx, t.bars[n].activeTrim = s.bars[n].pendingTrim)
        ∧ (s.node.state = .armed ∨ s.tracker.angle = 1439 → trimsActive s t ∧ t.faults.bars = s.faults.bars)
        ∧ (s.node.state = .armed ∨ s.tracker.angle = 1439 ∨ s.node.guardEnable = false →
            checked t s.tracker.tMeas s.faults.node ∨ checked t captured s.faults.node))
    ∧ (s.indexRises level → 719 ≤ s.tracker.angle → s.tracker.angle ≤ 1434 →
      ∃ t, exec (s.turn true level) s = .next t
        ∧ (∀ n : BarIx, t.bars[n].activeTrim = s.bars[n].pendingTrim)
        ∧ (s.node.state = .running → t.queue = stepped ∧ t.node = s.node.heldOutOfStep
            ∧ t.faults.node = s.nodeRecord .indexSlip s.currentTag (s.turned true))
        ∧ (s.node.state = .armed → trimsActive s t ∧ t.faults.bars = s.faults.bars
            ∧ (checked t s.tracker.tMeas (s.nodeRecord .indexSlip none (s.turned true))
              ∨ checked t captured (s.nodeRecord .indexSlip none (s.turned true)))))

/-- In RUNNING a forward boundary with nothing pending reports STARVED with angle 0, and a reverse boundary with an empty
history reports RETRACE_EXHAUSTED with angle 1439; both take HOLD and set DESYNC and leave the records in their places (R89,
R92, R93, R135, R166). A reverse boundary with a history retraces: its newest record becomes current, the current record
returns to the pending head, after the tail of a list of 16 is discarded and expected next, and the node runs on (R90,
R91). So it is at the counter's wrap, at an index found there, and at one found behind it, 1436 to 1439 forward or 0 to 3 in
reverse, whose boundary follows the crossings still owed (R3, R7, R8); a guard among those may take HOLD only with the guard
enable set (R86). -/
def Obligations.RunningRunsOut : Prop :=
  ∀ (s : State) (level : Bool), s.samples → s.tracker.angleValid = true → s.node.state = .running →
    let starved := fun t : State => t.queue = s.queue ∧ t.node = s.node.heldOutOfStep
      ∧ t.faults.node = s.nodeRecord .starved s.currentTag 0
    let exhausted := fun t : State => t.queue = s.queue ∧ t.node = s.node.heldOutOfStep
      ∧ t.faults.node = s.nodeRecord .retraceExhausted s.currentTag 1439
    let retraced := fun (t : State) (older : List CourseRecord) (newest cur : CourseRecord) =>
      (s.queue.pending.length < 16 → t.queue = { s.queue with
          history := older, current := some newest, pending := cur :: s.queue.pending })
      ∧ (∀ keep tail, s.queue.pending = keep ++ [tail] → 16 ≤ s.queue.pending.length → t.queue = { s.queue with
          history := older, current := some newest, pending := cur :: keep, expected := some tail.tag })
    (s.tracker.angle = 1439 → s.indexRises level ∨ s.tracker.sinceIndex < 1448 → s.queue.pending = [] →
      ∃ t, exec (s.turn true level) s = .next t ∧ starved t ∧ trimsActive s t ∧ t.faults.bars = s.faults.bars)
    ∧ (s.tracker.angle = 0 → s.queue.history = [] →
      ∃ t, exec (s.turn false level) s = .next t ∧ exhausted t ∧ t.bars = s.bars ∧ t.faults.bars = s.faults.bars)
    ∧ (∀ older newest cur, s.tracker.angle = 0 → s.queue.history = older ++ [newest] → s.queue.current = some cur →
      ∃ t, exec (s.turn false level) s = .next t ∧ t.bars = s.bars ∧ t.node = s.node ∧ t.faults = s.faults
        ∧ retraced t older newest cur)
    ∧ (s.indexRises level → 1435 ≤ s.tracker.angle → s.tracker.angle ≤ 1438 → s.queue.pending = [] →
      ∃ t, exec (s.turn true level) s = .next t ∧ t.queue = s.queue ∧ t.node.state = .hold ∧ t.node.desync = true
        ∧ (∀ n : BarIx, t.bars[n].activeTrim = s.bars[n].pendingTrim) ∧ (s.node.guardEnable = false → starved t))
    ∧ (s.indexRises level → 1 ≤ s.tracker.angle → s.tracker.angle ≤ 4 → s.queue.history = [] →
      ∃ t, exec (s.turn false level) s = .next t ∧ exhausted t)
    ∧ (∀ older newest cur, s.indexRises level → 1 ≤ s.tracker.angle → s.tracker.angle ≤ 4 →
      s.queue.history = older ++ [newest] → s.queue.current = some cur →
      ∃ t, exec (s.turn false level) s = .next t ∧ retraced t older newest cur
        ∧ (s.node.guardEnable = false → t.node = s.node ∧ t.faults.node = s.faults.node))

/-- Outside RUNNING no increment moves a bar, starts one, or reports to a bar's record; in OFFLINE no increment changes the
queue or the node state, and in ARMED none does but a forward one with a record pending that crosses the boundary, by the
counter's wrap or by an index that finds it at 720 or above (R3, R7, R9, R86, R87, R123, R136, R138). -/
def Obligations.ShaftOutsideRunning : Prop :=
  ∀ (s : State) (forward level : Bool), s.samples → s.node.state ≠ .running →
    ∃ t, exec (s.turn forward level) s = .next t ∧ barsButTrims s t ∧ t.faults.bars = s.faults.bars
      ∧ (s.node.state = .offline
          ∨ (s.node.state = .armed ∧ (forward = false ∨ s.queue.pending = [] ∨ ¬ s.crossesBoundary forward level)) →
          t.queue = s.queue ∧ t.node = s.node ∧ t.bars = s.bars)
      ∧ (forward = false → t.bars = s.bars)

/-- Every increment taken in CATCHUP takes HOLD, discards the catch-up targets and leaves the node record occupied; an
increment that is no index increment and crosses no boundary reports CATCHUP_DISTURBED with the counter value it gives and
sets no DESYNC (R147). That this holds of the 1449th forward increment too, whose INDEX_MISSING reaches the record and sets
DESYNC after it, is the MODEL'S CHOICE (entry 5). -/
def Obligations.CatchupDisturbed : Prop :=
  ∀ (s : State) (forward level : Bool), s.samples → s.node.state = .catchup →
    ∃ t, exec (s.turn forward level) s = .next t
      ∧ t.node.state = .hold ∧ t.node.stopReq = true ∧ t.node.catchup = noTargets ∧ t.faults.node ≠ none
      ∧ (¬ s.indexRises level → s.tracker.angle ≠ (if forward then 1439 else 0) →
          t.faults.node = s.nodeRecord .catchupDisturbed s.currentTag (s.turned forward)
          ∧ t.node.desync = s.node.desync ∧ t.queue = s.queue ∧ t.bars = s.bars)

/-! ### Window crossings -/

/-- What a window crossing does to a unit. A trigger in RUNNING gives a MOTION bar its course target: lead or trail of the
current record, or the trail of the newest history record, times the steps per needle (R123 to R125); a STILL bar starts a
move towards it, a MOVING one keeps it as its next target and reports LATE at the edge's angle (R114, R117, R126). A guard
reports GUARD at its own angle for a MOVING bar and changes no bar (R128, R167). No crossing does anything in another mode or
node state, nor a reverse underlap-end trigger with an empty history (R123, R125). With the guard enable clear an increment
in RUNNING without an index issues the crossing of a trigger's edge to its unit, and of a guard's edge: a MOVING bar reports
GUARD at that angle and the node stays RUNNING (R4, R5, R128, R129); one that R10 withholds crossings from issues none. An
index that finds the counter behind issues the crossings still owed: the overlap end's forward, the underlap start's in
reverse, against the record current then (R7, R8). An increment in RUNNING that crosses no boundary leaves the queue, and
every bar none of whose edges it crosses with that bar's record; without the guard enable it leaves the node too, but for an
index slip, which takes HOLD and sets DESYNC (R3, R9, R138). -/
def Obligations.CrossingsStartAndGuard : Prop :=
  (∀ (s : State) (c : Crossing) (cur : CourseRecord) (ramp : List Nat),
    s.node.state = .running → s.bars[c.bar].mode = .motion → s.queue.current = some cur → s.rampOf s.bars[c.bar] = some ramp →
    ∀ needle : Nat,
      (c.edge = .underlapStart ∧ c.forward = true ∧ needle = cur.plans[c.bar].lead)
        ∨ (c.edge = .overlapStart ∧ c.forward = true ∧ needle = cur.plans[c.bar].trail)
        ∨ (c.edge = .overlapEnd ∧ c.forward = false ∧ needle = cur.plans[c.bar].lead)
        ∨ (c.edge = .underlapEnd ∧ c.forward = false
            ∧ ∃ old, s.queue.history.getLast? = some old ∧ needle = old.plans[c.bar].trail) →
      let b := s.bars[c.bar]
      let target := needle * (s.classOf b).spn
      let steps := if target ≤ b.pos then b.pos - target else target - b.pos
      (b.motion = .still → target = b.pos → takeCrossing s c = s)
        ∧ (b.motion = .still → target ≠ b.pos →
          takeCrossing s c = s.setBar c.bar { b with
            dirHigh := decide (b.pos < target)
            target := target
            step := true
            pulseLeft := 10
            pos := if b.referenced = false then b.pos else if b.pos < target then b.pos + 1 else b.pos - 1
            motion := .moving { up := decide (b.pos < target), steps := steps, emitted := 1, ramp := ramp,
                                left := periodAfter ramp steps 1 } })
        ∧ (∀ m, b.motion = .moving m →
          takeCrossing s c = { s.setBar c.bar { b with next := some target } with
            faults := { s.faults with
              bars := s.faults.bars.set c.bar (s.barRecord c.bar .late (some cur.tag) c.angle) } }))
  ∧ (∀ (s : State) (c : Crossing),
    (s.node.state ≠ .running ∨ s.bars[c.bar].mode ≠ .motion → takeCrossing s c = s)
    ∧ (c.edge = .underlapEnd → c.forward = false → s.queue.history = [] → takeCrossing s c = s)
    ∧ (((c.edge = .underlapEnd ∨ c.edge = .overlapEnd) ∧ c.forward = true)
          ∨ ((c.edge = .underlapStart ∨ c.edge = .overlapStart) ∧ c.forward = false) →
        ((∀ m, s.bars[c.bar].motion ≠ .moving m) → takeCrossing s c = s)
        ∧ (∀ m, s.bars[c.bar].motion = .moving m → s.node.state = .running → s.bars[c.bar].mode = .motion →
          takeCrossing s c = { s with faults := { s.faults with
            bars := s.faults.bars.set c.bar (s.barRecord c.bar .guard s.currentTag c.angle) } })))
  ∧ (∀ (s : State) (forward level : Bool) (n : BarIx) (e : Edge), s.samples → s.tracker.angleValid = true →
    ¬ s.indexRises level → s.node.state = .running → s.node.guardEnable = false → 1 ≤ s.node.ul → 1 ≤ s.node.ol →
    (if forward then e = .underlapStart ∨ e = .overlapStart else e = .underlapEnd ∨ e = .overlapEnd) →
    s.node.edgeAngle s.bars[n].activeTrim e = some (if forward then s.tracker.angle + 1 else s.tracker.angle) →
    ((s.tracker.recross = 0 ∨ s.tracker.recrossForward ≠ forward) →
      let issued := takeCrossing s { bar := n, edge := e, angle := if forward then s.tracker.angle + 1 else s.tracker.angle,
                                     forward := forward }
      ∃ t, exec (s.turn forward level) s = .next t ∧ t.node = s.node ∧ t.queue = s.queue ∧ t.bars[n] = issued.bars[n]
        ∧ (s.node.us + s.node.ul < s.node.os → t.faults.bars[n] = issued.faults.bars[n]))
    ∧ (0 < s.tracker.recross → s.tracker.recrossForward = forward →
      ∃ t, exec (s.turn forward level) s = .next t ∧ t.node = s.node ∧ t.queue = s.queue ∧ t.bars = s.bars
        ∧ t.faults = s.faults))
  ∧ (∀ (s : State) (forward level : Bool) (n : BarIx) (e : Edge) (m : Move), s.samples → s.tracker.angleValid = true →
    ¬ s.indexRises level → s.node.state = .running → s.node.guardEnable = false → 1 ≤ s.node.ul → 1 ≤ s.node.ol →
    s.bars[n].mode = .motion → s.bars[n].motion = .moving m → s.tracker.recross = 0 ∨ s.tracker.recrossForward ≠ forward →
    (if forward then e = .underlapEnd ∨ e = .overlapEnd else e = .underlapStart ∨ e = .overlapStart) →
    let angle := if forward then s.tracker.angle + 1 else s.tracker.angle
    s.node.edgeAngle s.bars[n].activeTrim e = some angle →
    ∃ t c, exec (s.turn forward level) s = .next t ∧ t.node = s.node ∧ t.queue = s.queue ∧ t.faults.bars[n] = some c
      ∧ (s.faults.bars[n] = none → c.code = .guard ∧ c.tag = s.currentTag ∧ c.angle = angle)
      ∧ (s.node.us + s.node.ul < s.node.os →
          t.faults.bars[n] = s.barRecord n .guard s.currentTag angle ∧ t.bars[n] = s.bars[n]))
  ∧ (∀ (s : State) (level : Bool) (n : BarIx) (m : Move) (angle : Nat), s.samples → s.tracker.angleValid = true →
    s.indexRises level → s.node.state = .running → s.node.guardEnable = false → 16 ≤ s.node.ul → 16 ≤ s.node.ol →
    s.bars[n].mode = .motion → s.bars[n].motion = .moving m →
    (1435 ≤ s.tracker.angle → s.tracker.angle ≤ 1437 → s.tracker.angle + 1 < angle →
      s.node.edgeAngle s.bars[n].activeTrim .overlapEnd = some angle →
      ∃ t, exec (s.turn true level) s = .next t ∧ t.faults.bars[n] = s.barRecord n .guard s.currentTag angle
        ∧ t.bars[n] = { s.bars[n] with activeTrim := s.bars[n].pendingTrim })
    ∧ (2 ≤ s.tracker.angle → s.tracker.angle ≤ 4 → angle < s.tracker.angle →
      s.node.edgeAngle s.bars[n].activeTrim .underlapStart = some angle →
      ∃ t, exec (s.turn false level) s = .next t ∧ t.faults.bars[n] = s.barRecord n .guard s.currentTag angle
        ∧ t.bars[n] = s.bars[n]))
  ∧ (∀ (s : State) (forward level : Bool), s.samples → s.node.state = .running → ¬ s.crossesBoundary forward level →
    let slips := s.tracker.angleValid = true ∧ s.indexRises level
      ∧ (if forward then 5 ≤ s.turned true ∧ s.turned true ≤ 1435 else 4 ≤ s.turned false ∧ s.turned false ≤ 1434)
    ∃ t, exec (s.turn forward level) s = .next t ∧ t.queue = s.queue
      ∧ (∀ n : BarIx, (∀ e : Edge, s.node.edgeAngle s.bars[n].activeTrim e
            ≠ some (if forward then s.tracker.angle + 1 else s.tracker.angle)) →
          t.bars[n] = s.bars[n] ∧ t.faults.bars[n] = s.faults.bars[n])
      ∧ (s.tracker.angleValid = false → t.bars = s.bars ∧ t.node = s.node ∧ t.faults = s.faults)
      ∧ (s.node.guardEnable = false → ¬ slips → t.node = s.node ∧ t.faults.node = s.faults.node)
      ∧ (slips → t.node = s.node.heldOutOfStep
          ∧ t.faults.node = s.nodeRecord .indexSlip s.currentTag (s.turned forward)))

/-- With the guard enable set, an increment in RUNNING that crosses a guard's edge of a MOTION bar that is MOVING, the
underlap end or the overlap end forwards, the underlap start or the overlap start in reverse, leaves the node in HOLD with
the stop request asserted and DESYNC as it was, and some bar's fault record occupied (R4, R128, R129, R130). So does an index
that finds the counter behind such an edge and issues its crossing (R7, R8), but for DESYNC, which the boundary after it may
set. -/
def Obligations.GuardTakesHold : Prop :=
  ∀ (s : State) (forward level : Bool) (n : BarIx) (m : Move), s.samples → s.tracker.angleValid = true →
    s.node.state = .running → s.node.guardEnable = true → s.bars[n].mode = .motion → s.bars[n].motion = .moving m →
    (∀ e : Edge, ¬ s.indexRises level → s.tracker.recross = 0 ∨ s.tracker.recrossForward ≠ forward →
      (if forward then e = .underlapEnd ∨ e = .overlapEnd else e = .underlapStart ∨ e = .overlapStart) →
      s.node.edgeAngle s.bars[n].activeTrim e = some (if forward then s.tracker.angle + 1 else s.tracker.angle) →
      ∃ t, exec (s.turn forward level) s = .next t ∧ t.node.state = .hold ∧ t.node.stopReq = true
        ∧ t.node.desync = s.node.desync ∧ (∃ k : BarIx, t.faults.bars[k] ≠ none) ∧ t.queue = s.queue)
    ∧ (∀ angle : Nat, s.indexRises level →
      (if forward then 1435 ≤ s.tracker.angle ∧ s.tracker.angle ≤ 1437 ∧ s.tracker.angle + 1 < angle
          ∧ s.node.edgeAngle s.bars[n].activeTrim .overlapEnd = some angle
        else 2 ≤ s.tracker.angle ∧ s.tracker.angle ≤ 4 ∧ angle < s.tracker.angle
          ∧ s.node.edgeAngle s.bars[n].activeTrim .underlapStart = some angle) →
      ∃ t, exec (s.turn forward level) s = .next t ∧ t.node.state = .hold ∧ t.node.stopReq = true
        ∧ (∃ k : BarIx, t.faults.bars[k] ≠ none))

/-! ### Bars in motion -/

/-- Each further pulse of a move raises the step output for 10 counts, counts the step position of a referenced bar, and
starts the next period of the profile; the output returns low at its end (R110, R112, R115). -/
def Obligations.PulsesFollowTheMove : Prop :=
  ∀ (s : State) (n : BarIx),
    (∀ m, s.bars[n].motion = .moving m → m.emitted < m.steps →
      exec (.stepPulse n) s = .next (s.setBar n { s.bars[n] with
        step := true
        pulseLeft := 10
        pos := if s.bars[n].referenced = false then s.bars[n].pos
               else if m.up then s.bars[n].pos + 1 else s.bars[n].pos - 1
        motion := .moving { m with emitted := m.emitted + 1, left := periodAfter m.ramp m.steps (m.emitted + 1) } }))
    ∧ exec (.stepPulseEnd n) s = .next (s.setBar n { s.bars[n] with step := false, pulseLeft := 0 })

/-- When a move completes, a unit without a next target becomes STILL; with one it starts towards it in RUNNING, and discards
it in OFFLINE, ARMED and HOLD (R116). In CATCHUP a unit with a next target starts towards it too, and the node stays in
CATCHUP (R145, R146); the completion that leaves every MOTION bar STILL at its catch-up target makes the node RUNNING,
releases the stop request and discards the targets, and no other does (R146). -/
def Obligations.MoveCompletes : Prop :=
  ∀ (s : State) (n : BarIx) (m : Move), s.bars[n].motion = .moving m → m.steps ≤ m.emitted →
    (s.node.state ≠ .catchup → s.bars[n].next = none →
      exec (.moveComplete n) s = .next (s.setBar n { s.bars[n] with motion := .still }))
    ∧ (∀ target, s.bars[n].next = some target →
      (s.node.state = .offline ∨ s.node.state = .armed ∨ s.node.state = .hold →
        exec (.moveComplete n) s = .next (s.setBar n { s.bars[n] with motion := .still, next := none }))
      ∧ (s.node.state = .running → target = s.bars[n].pos →
        exec (.moveComplete n) s = .next (s.setBar n { s.bars[n] with motion := .still, next := none }))
      ∧ (∀ ramp, s.node.state = .running ∨ (s.node.state = .catchup ∧ s.bars[n].mode = .motion) → target ≠ s.bars[n].pos →
        s.rampOf s.bars[n] = some ramp →
        ∃ m', exec (.moveComplete n) s = .next (s.setBar n { s.bars[n] with
            next := none
            dirHigh := decide (s.bars[n].pos < target)
            target := target
            step := true
            pulseLeft := 10
            pos := if s.bars[n].referenced = false then s.bars[n].pos
                   else if s.bars[n].pos < target then s.bars[n].pos + 1 else s.bars[n].pos - 1
            motion := .moving m' })
          ∧ m'.emitted = 1 ∧ m'.ramp = ramp ∧ m'.up = decide (s.bars[n].pos < target)
          ∧ m'.steps = (if target ≤ s.bars[n].pos then s.bars[n].pos - target else target - s.bars[n].pos)
          ∧ m'.left = periodAfter ramp m'.steps 1))
    ∧ (s.node.state = .catchup → s.bars[n].next = none ∨ s.bars[n].next = some s.bars[n].pos →
      ∃ t, exec (.moveComplete n) s = .next t ∧ t = { s with bars := t.bars, node := t.node }
        ∧ (∀ k : BarIx, k ≠ n → t.bars[k] = s.bars[k]) ∧ t.bars[n] = { s.bars[n] with motion := .still, next := none }
        ∧ ((∀ k : BarIx, t.bars[k].mode = .motion → t.bars[k].motion = .still ∧ s.node.catchup[k] = some t.bars[k].pos) →
            t.node = { s.node with state := .running, stopReq := false, catchup := noTargets })
        ∧ ((∃ k : BarIx, t.bars[k].mode = .motion
              ∧ ¬(t.bars[k].motion = .still ∧ s.node.catchup[k] = some t.bars[k].pos)) → t.node = s.node))

/-- The sample at the end of a search period (R158, R159, R160, R167): in the back-off leg an inactive input begins the seek
leg; in the seek leg an active input finds home, at the smaller of the home position taken and the travel limit; otherwise
the next pulse of the leg follows, up to 4160, after which the search fails with NO_HOME. Home found in CATCHUP makes the node
RUNNING when every MOTION bar then stands STILL at its catch-up target, and leaves it as it is otherwise (R146, R148). -/
def Obligations.SearchSamples : Prop :=
  ∀ (s : State) (n : BarIx) (homes : BitVec 16) (x : Search), s.bars[n].motion = .searching x →
    let b := s.bars[n]
    let active : Bool := homes.getLsbD n.val == (x.polarity == .activeHigh)
    let seen := { s with homes := homes }
    (x.leg = .backOff → active = false →
      exec (.searchSample n homes) s = .next (seen.setBar n { b with
        step := true, pulseLeft := 10, dirHigh := false,
        motion := .searching { x with leg := .seek, pulses := 1, left := x.period } }))
    ∧ ((x.leg = .backOff ∧ active = true) ∨ (x.leg = .seek ∧ active = false) → x.pulses < 4160 →
      exec (.searchSample n homes) s = .next (seen.setBar n { b with
        step := true, pulseLeft := 10, motion := .searching { x with pulses := x.pulses + 1, left := x.period } }))
    ∧ (x.leg = .seek → active = true →
      let found := seen.setBar n { b with
        pos := min x.homePos (b.limit * (s.classOf b).spn)
        target := min x.homePos (b.limit * (s.classOf b).spn)
        referenced := true
        motion := .still }
      let reached := s.node.state = .catchup ∧ ∀ k : BarIx, found.bars[k].mode = .motion →
        found.bars[k].motion = .still ∧ s.node.catchup[k] = some found.bars[k].pos
      (¬ reached → exec (.searchSample n homes) s = .next found)
      ∧ (reached → exec (.searchSample n homes) s = .next { found with
          node := { s.node with state := .running, stopReq := false, catchup := noTargets } }))
    ∧ ((x.leg = .backOff ∧ active = true) ∨ (x.leg = .seek ∧ active = false) → 4160 ≤ x.pulses →
      exec (.searchSample n homes) s = .next { seen.setBar n { b with
          referenced := false, pos := 0, target := 0, motion := .still } with
        faults := { s.faults with
          bars := s.faults.bars.set n (s.barRecord n .noHome s.currentTag s.tracker.angle) } })

/-! ### The pattern store -/

/-- A free READY store grants the waiting request of the expander before the service path's before the engine's; a busy store
and the power-on clear grant none; a request presented to a free store with none waiting is granted at once (R23, R31). The
clear's last word leaves the store READY and every word reading 0 and clean, and grants what waits (R31). What a client asks
for: the expander its next fetch, a row word of the reduced row (R37) or a lap entry of the bar's lap set at the code that
the row word carries, in bits 15..8 for an even bar and 7..0 for an odd (R39, R40, R189); the service path the next staged
word, with computed check bits, or with the diagnostic check value while that mode is on (R20, R30, R33), or else the next
word of a READ (R35); the engine the next ramp entry of its class (R58, R66). -/
def Obligations.ArbiterPriority : Prop :=
  (∀ s : State, s.store.access.isSome ∨ s.store.state = .clearing → s.grant = s)
    ∧ (∀ (s : State) (a : Access), s.store.access = none → s.store.state = .ready →
      s.store.waitExpander = true → s.nextAccess .expander = some a →
      s.grant = { s with store := { s.store with access := some a, waitExpander := false } })
    ∧ (∀ (s : State) (a : Access), s.store.access = none → s.store.state = .ready →
      s.store.waitExpander = false → s.store.waitService = true → s.nextAccess .service = some a →
      s.grant = { s with store := { s.store with access := some a, waitService := false } })
    ∧ (∀ (s : State) (a : Access), s.store.access = none → s.store.state = .ready →
      s.store.waitExpander = false → s.store.waitService = false → s.store.waitEngine = true →
      s.nextAccess .engine = some a →
      s.grant = { s with store := { s.store with access := some a, waitEngine := false } })
    ∧ (∀ (s : State) (c : Client) (a : Access), s.store.access = none → s.store.state = .ready →
      s.store.waitExpander = false → s.store.waitService = false → s.store.waitEngine = false → s.nextAccess c = some a →
      s.present c = { s with store := { s.store with access := some a } })
    ∧ (∀ (s : State) (j : Expansion), s.expander.job = some j →
      (∀ (k : Fin 8) rest, j.todo = .rowWord k :: rest → s.nextAccess .expander
          = some { client := .expander, addr := j.rowBase + k.val, write := none, orphan := false })
      ∧ (∀ (n : BarIx) rest, j.todo = .lapEntry n :: rest → s.nextAccess .expander
          = some { client := .expander, write := none, orphan := false,
                   addr := 65536 + 256 * j.lapSets[n].val
                     + (if n.val % 2 = 0 then j.rowWord.toNat / 256 else j.rowWord.toNat % 256) })
      ∧ (j.todo = [] → s.nextAccess .expander = none))
    ∧ (∀ s : State,
      (∀ addr d rest, s.store.staging = (addr, d) :: rest → s.nextAccess .service
          = some { client := .service, addr := addr, orphan := false,
                   write := some ((if s.store.diagMode = true then s.store.diagValue else checkBits d) ++ d) })
      ∧ (∀ r, s.store.staging = [] → s.store.read = some r → s.nextAccess .service
          = some { client := .service, addr := r.start + r.words.length, write := none, orphan := false })
      ∧ (s.store.staging = [] → s.store.read = none → s.nextAccess .service = none)
      ∧ (∀ j, s.engine.commit = some j → s.nextAccess .engine
          = some { client := .engine, addr := 66560 + 32 * j.cls.val + j.fetched.length, write := none, orphan := false })
      ∧ (s.expander.job = none → s.nextAccess .expander = none)
      ∧ (s.engine.commit = none → s.nextAccess .engine = none))
    ∧ (∀ s : State, s.store.state = .clearing →
      ∃ t, exec .storeClearDone s = .next t
        ∧ t = State.grant { s with store := { s.store with words := t.store.words, state := .ready, clearLeft := 0 } }
        ∧ t = { s with store := t.store } ∧ t.store.state = .ready
        ∧ (∀ addr, t.store.words.read addr = 0) ∧ (∀ addr, (readOutcome (t.store.words.read addr)).severity = none)
        ∧ t.store.staging = s.store.staging ∧ t.store.read = s.store.read ∧ t.store.capture = s.store.capture
        ∧ t.store.corrected = s.store.corrected ∧ t.store.diagMode = s.store.diagMode
        ∧ t.store.diagValue = s.store.diagValue)

/-- The completion of a LOAD's write (R20, R22, R30, R33, R58): the word holds exactly the 22 bits written, every other word
is as it was, the word leaves the staging, and a VALID class whose ramp region holds it becomes STALE; the service path
presents its next word there, if it has one, and the arbiter grants among the requests waiting (R23). With the last word the
course frames that waited for it are handed over (RequestsWaitTheirTurn). A word access outside 0..66,687, which no client
forms (R19), faults by name (MODEL'S CHOICE, entry 23). -/
def Obligations.LoadWordWritten : Prop :=
  (∀ (s : State) (addr : Nat) (w : Stored), s.store.words.wf = true → addr < 66688 →
      s.ring.waiting = [] ∨ 2 ≤ s.store.staging.length ∨ s.expander.job ≠ none →
      s.store.access = some { client := .service, addr := addr, write := some w, orphan := false } →
      ∃ t, exec .wordAccessComplete s = .next t
        ∧ t = State.grant { s with
            store := { s.store with
              words := t.store.words
              staging := s.store.staging.drop 1
              access := none
              waitService := s.store.waitService || decide (2 ≤ s.store.staging.length) }
            engine := { s.engine with classes := t.engine.classes } }
        ∧ t.store.words.read addr = w ∧ (∀ x, x ≠ addr → t.store.words.read x = s.store.words.read x)
        ∧ t.store.staging = s.store.staging.drop 1
        ∧ t.store.capture = s.store.capture ∧ t.store.corrected = s.store.corrected
        ∧ (∀ c : ClassIx, t.engine.classes[c]
            = if 66560 + 32 * c.val ≤ addr ∧ addr < 66560 + 32 * c.val + 32 ∧ s.engine.classes[c].state = .valid
              then { s.engine.classes[c] with state := .stale } else s.engine.classes[c])
        ∧ t.engine.commit = s.engine.commit
        ∧ t.tracker = s.tracker ∧ t.expander = s.expander ∧ t.queue = s.queue ∧ t.bars = s.bars ∧ t.node = s.node
        ∧ t.faults = s.faults ∧ t.ring = s.ring ∧ t.homes = s.homes)
    ∧ (∀ (s : State) (a : Access), s.store.access = some a → 66688 ≤ a.addr →
      exec .wordAccessComplete s = .fault (.storeAddress a.addr))

/-- The capture record (R27): a report fills it when it is empty; an uncorrectable report replaces a correctable capture,
with the repeat flag set; any other report sets the repeat flag and keeps the capture; a clean read reports nothing. The
completion of a READ's word (R22, R26, R28, R35): the delivered word joins the reply, the first uncorrectable one gives its
index, the outcome is counted and captured at its address as kind READ, and no stored word changes; the next word is
presented there, if any is left, and the arbiter grants among the requests waiting (R23); with the last word the reply is
sent, ECC_FAIL if any was uncorrectable and DONE otherwise. -/
def Obligations.ReadWordDelivered : Prop :=
  (∀ (held : Option Capture) (kind : CaptureKind) (addr : Nat) (o : ReadOutcome),
    (o.severity = none → captureReport held kind addr o = held)
    ∧ (∀ sev, o.severity = some sev →
      (held = none → captureReport held kind addr o = some ⟨kind, addr, o.syndrome, o.parity, sev, false⟩)
      ∧ (∀ c, held = some c → c.severity = .correctable → sev = .uncorrectable →
          captureReport held kind addr o = some ⟨kind, addr, o.syndrome, o.parity, .uncorrectable, true⟩)
      ∧ (∀ c, held = some c → c.severity = .uncorrectable ∨ sev = .correctable →
          captureReport held kind addr o = some { c with repeated := true })))
  ∧ ∀ (s : State) (addr : Nat) (r : ReadJob), addr < 66688 →
    s.store.access = some { client := .service, addr := addr, write := none, orphan := false } → s.store.read = some r →
    let o := readOutcome (s.store.words.read addr)
    let bad := if r.firstBad = none ∧ o.severity = some .uncorrectable then some r.words.length else r.firstBad
    ∃ t, exec .wordAccessComplete s = .next t
      ∧ t = State.grant { s with
          store := { s.store with
            capture := t.store.capture
            corrected := t.store.corrected
            read := t.store.read
            access := none
            waitService := s.store.waitService || decide (r.words.length + 1 < r.count) }
          ring := t.ring }
      ∧ t.store.words = s.store.words ∧ t.store.capture = captureReport s.store.capture .read addr o
      ∧ t.store.corrected = (if o.severity = some .correctable then min 255 (s.store.corrected + 1) else s.store.corrected)
      ∧ t.tracker = s.tracker ∧ t.expander = s.expander ∧ t.engine = s.engine ∧ t.queue = s.queue ∧ t.bars = s.bars
      ∧ t.node = s.node ∧ t.faults = s.faults ∧ t.homes = s.homes
      ∧ (r.words.length + 1 < r.count →
          t.store.read = some { r with words := r.words ++ [o.data], firstBad := bad } ∧ t.ring = s.ring)
      ∧ (r.count ≤ r.words.length + 1 → t.store.read = none
          ∧ t.ring = s.ring.release r.ticket (Reply.chars
              { result := if bad.isSome then .eccFail else .done, bad := bad, data := some (r.words ++ [o.data]) }
              r.form s.ring.address r.op r.env))

/-- The check code (R20, R21): a word with computed check bits reads clean; with one of its 22 bits in error it is found
correctable and its data are delivered; with two in error it is found uncorrectable. -/
def Obligations.CheckCodeFindsErrors : Prop :=
  (∀ d : Word, (readOutcome (storedOf d)).severity = none ∧ (readOutcome (storedOf d)).data = d)
    ∧ (∀ (d : Word) (i : Nat), i < 22 →
      (readOutcome (storedOf d ^^^ BitVec.twoPow 22 i)).severity = some .correctable
        ∧ (readOutcome (storedOf d ^^^ BitVec.twoPow 22 i)).data = d)
    ∧ (∀ (d : Word) (i j : Nat), i < 22 → j < 22 → i ≠ j →
      (readOutcome (storedOf d ^^^ BitVec.twoPow 22 i ^^^ BitVec.twoPow 22 j)).severity = some .uncorrectable)

/-- The completion of a fetch. Of the class engine (R25, R28, R59, R66, R68): an uncorrectable word ends the commit with
ECC_FAIL and the class in its prior state; any other is raised to at least 20 and taken, and the last one begins the
computation stage. Of the expander (R24, R51, R52): an uncorrectable word ends the fetches with the outcome ECC; a
correctable one marks the candidate. No fetch changes a stored word. A client with a further fetch presents it at the
completion, and the arbiter grants among the requests waiting (R23, R48, R66). -/
def Obligations.FetchDelivered : Prop :=
  ∀ (s : State) (addr : Nat), addr < 66688 →
    let o := readOutcome (s.store.words.read addr)
    let count := if o.severity = some .correctable then min 255 (s.store.corrected + 1) else s.store.corrected
    (∀ j : Commit, s.store.access = some { client := .engine, addr := addr, write := none, orphan := false } →
      s.engine.commit = some j → j.stage = .fetching →
      ∃ t, exec .wordAccessComplete s = .next t
        ∧ t = State.grant { s with
            store := { s.store with
              capture := t.store.capture
              corrected := t.store.corrected
              access := none
              waitEngine := s.store.waitEngine
                || decide (o.severity ≠ some .uncorrectable ∧ j.fetched.length + 1 < j.length) }
            engine := t.engine }
        ∧ t.store.words = s.store.words ∧ t.store.corrected = count
        ∧ t.store.capture = captureReport s.store.capture .commit addr o
        ∧ t.tracker = s.tracker ∧ t.expander = s.expander ∧ t.queue = s.queue ∧ t.bars = s.bars ∧ t.node = s.node
        ∧ t.faults = s.faults ∧ t.ring = s.ring
        ∧ (o.severity = some .uncorrectable → t.engine.commit = none
            ∧ t.engine.classes = s.engine.classes.set j.cls
                { s.engine.classes[j.cls] with state := j.prior, outcome := .eccFail })
        ∧ (o.severity ≠ some .uncorrectable → t.engine.classes = s.engine.classes
            ∧ t.engine.commit = some { j with
                fetched := j.fetched ++ [max 20 o.data.toNat]
                raised := j.raised || decide (o.data.toNat < 20)
                stage := if j.length ≤ j.fetched.length + 1 then .computing 0 else .fetching }))
    ∧ (∀ j : Expansion, s.store.access = some { client := .expander, addr := addr, write := none, orphan := false } →
      s.expander.job = some j →
      ∃ t k, exec .wordAccessComplete s = .next t
        ∧ t = State.grant { s with
            store := { s.store with
              capture := t.store.capture
              corrected := t.store.corrected
              access := none
              waitExpander := s.store.waitExpander || !k.todo.isEmpty }
            expander := t.expander }
        ∧ t.expander = { s.expander with job := some k }
        ∧ t.store.words = s.store.words ∧ t.store.corrected = count
        ∧ t.store.capture = captureReport s.store.capture .expansion addr o
        ∧ t.tracker = s.tracker ∧ t.engine = s.engine ∧ t.queue = s.queue ∧ t.bars = s.bars ∧ t.node = s.node
        ∧ t.faults = s.faults ∧ t.ring = s.ring
        ∧ k.frame = j.frame ∧ k.bank = j.bank ∧ k.ticket = j.ticket
        ∧ (o.severity = some .uncorrectable → k.ecc = true ∧ k.todo = [] ∧ k.plans = j.plans)
        ∧ (o.severity ≠ some .uncorrectable → k.ecc = j.ecc ∧ k.todo = j.todo.drop 1
            ∧ k.corrected = (j.corrected || decide (o.severity = some .correctable))
            ∧ (∀ w rest, j.todo = .rowWord w :: rest → k.rowWord = o.data ∧ k.plans = j.plans)
            ∧ (∀ (b : BarIx) rest, j.todo = .lapEntry b :: rest →
                (∀ n : BarIx, n ≠ b → k.plans[n] = j.plans[n])
                ∧ (o.data.getLsbD 15 = true → k.plans[b].source = .stand ∧ k.plans[b].clamped = false)
                ∧ (o.data.getLsbD 15 = false → k.plans[b].source = .table
                  ∧ k.plans[b].lead = min (o.data.toNat % 64) j.limits[b]
                  ∧ k.plans[b].trail = min (o.data.toNat / 64 % 64) j.limits[b]
                  ∧ (k.plans[b].clamped = true
                      ↔ j.limits[b] < o.data.toNat % 64 ∨ j.limits[b] < o.data.toNat / 64 % 64)))))

/-- R28: the corrected count adds one for each correctable read of any kind, up to 255, whatever the capture record holds; no
other read changes it; GET_FAULTS returns it beside the capture record. -/
def Obligations.CorrectedCount : Prop :=
  (∀ (st : Store) (kind : CaptureKind) (addr : Nat) (o : ReadOutcome),
      (o.severity = some .correctable → st.corrected < 255 → (st.report kind addr o).corrected = st.corrected + 1)
      ∧ (o.severity = some .correctable → st.corrected = 255 → (st.report kind addr o).corrected = 255)
      ∧ (o.severity ≠ some .correctable → (st.report kind addr o).corrected = st.corrected)
      ∧ (∀ capture, ({ st with capture := capture }.report kind addr o).corrected = (st.report kind addr o).corrected))
    ∧ (∀ (s : State) (a : Access), s.store.access = some a → a.addr < 66688 → a.write = none → a.orphan = false →
      ∃ t, exec .wordAccessComplete s = .next t
        ∧ t.store.corrected
          = (s.store.report (captureKindOf a.client) a.addr (readOutcome (s.store.words.read a.addr))).corrected)
    ∧ (∀ (s : State) (env : Envelope), s.takesService → env.data.length = 6 →
      ∃ w0 w1 w2 w3 w4, exec (.getFaults env) s
        = .next (s.answered .getFaults env
            { result := .done, data := some [w0, w1, w2, w3, w4, BitVec.ofNat 16 s.store.corrected] }))

/-- R29: a CLEAR_FAULT of ECC or ALL empties the capture record and zeroes the count, and a later error fills the record
afresh and counts from 0, while one reported before leaves no trace; both are empty after power-on, a pin reset and a
RESTART. -/
def Obligations.CaptureRecordCleared : Prop :=
  (∀ (s : State) (env : Envelope) (target bar : Byte), s.takesService → env.data = [] → target = 2 ∨ target = 3 →
      ∃ t, exec (.clearFault env target bar) s = .next t ∧ t.store = { s.store with capture := none, corrected := 0 }
        ∧ (∀ (kind : CaptureKind) (addr : Nat) (o : ReadOutcome) (sev : Severity), o.severity = some sev →
          (t.store.report kind addr o).capture = some ⟨kind, addr, o.syndrome, o.parity, sev, false⟩
          ∧ (t.store.report kind addr o).corrected = if sev = .correctable then 1 else 0)
        ∧ (∀ (kind : CaptureKind) (addr : Nat) (o : ReadOutcome),
          ∃ u, exec (.clearFault env target bar) { s with store := s.store.report kind addr o } = .next u
            ∧ u.store.capture = none ∧ u.store.corrected = 0))
    ∧ (∀ straps a b homes s, ∃ t, exec (.powerOn straps a b homes) s = .next t
        ∧ t.store.capture = none ∧ t.store.corrected = 0)
    ∧ (∀ s, ∃ t, exec .pinReset s = .next t ∧ t.store.capture = none ∧ t.store.corrected = 0)
    ∧ (∀ (env : Envelope) (s : State), s.takesService → env.data = [] →
        (∀ n : BarIx, s.bars[n].motion = .still) → s.engine.commit = none →
        ∃ t, exec (.restart env) s = .next t ∧ t.store.capture = none ∧ t.store.corrected = 0)

/-! ### Drive classes and planning -/

/-- The move time is the sum of the periods that follow the pulses of the move's profile (R60 to R63), never falls as the
steps rise, and is 0 for no steps. A move of 2L steps or more runs up the ramp, at its last period, and down; a shorter one
turns at its middle: pulse k of S is followed by the period of the smaller of k and S - k + 1 (R60, R61). -/
def Obligations.MoveTimeIsItsPeriods : Prop :=
  ∀ ramp : List Nat, 1 ≤ ramp.length →
    moveTime ramp 0 = 0
    ∧ (∀ steps, moveTime ramp steps = ((List.range steps).map fun k => periodAfter ramp steps (k + 1)).sum)
    ∧ (∀ steps, moveTime ramp steps ≤ moveTime ramp (steps + 1))
    ∧ (∀ steps k, 2 * ramp.length ≤ steps → 1 ≤ k → k ≤ steps →
        periodAfter ramp steps k = ramp.getD (min (min k ramp.length) (steps - k + 1) - 1) 0)
    ∧ (∀ steps k, steps < 2 * ramp.length → 1 ≤ k → k ≤ steps →
        periodAfter ramp steps k = ramp.getD (min k (steps - k + 1) - 1) 0)
    ∧ (∀ steps, 2 * ramp.length ≤ steps →
        moveTime ramp steps = 2 * ramp.sum + (steps - 2 * ramp.length) * ramp.getD (ramp.length - 1) 0)

/-- Planning sets each bar's distances against its trail in the predecessor, and T_min to the largest requirement, capped at
16,777,215: each requirement is its move time x 1440 divided by the window's length, rounded up (R97 to R101). -/
def Obligations.CourseRequirement : Prop :=
  ∀ (s : State) (r prev : CourseRecord), 1 ≤ s.node.ul → 1 ≤ s.node.ol →
    let p := planRecord s r prev
    p.tag = r.tag ∧ p.row = r.row ∧ p.bank = r.bank ∧ p.corrected = r.corrected
    ∧ (∀ n : BarIx, p.plans[n].source = r.plans[n].source ∧ p.plans[n].lead = r.plans[n].lead
        ∧ p.plans[n].trail = r.plans[n].trail ∧ p.plans[n].clamped = r.plans[n].clamped)
    ∧ (∀ n : BarIx, r.plans[n].source ≠ .excluded →
        (p.plans[n].underlap : Int) = |(r.plans[n].lead : Int) - prev.plans[n].trail|
        ∧ (p.plans[n].overlap : Int) = |(r.plans[n].trail : Int) - r.plans[n].lead|
        ∧ (p.tMin < 16777215 →
            lookupTime (s.classOf s.bars[n]) p.plans[n].underlap * 1440 ≤ p.tMin * s.node.ul
            ∧ lookupTime (s.classOf s.bars[n]) p.plans[n].overlap * 1440 ≤ p.tMin * s.node.ol))
    ∧ p.tMin ≤ 16777215
    ∧ (p.tMin ≠ 0 → ∃ n : BarIx, r.plans[n].source ≠ .excluded
        ∧ ((p.tMin - 1) * s.node.ul < lookupTime (s.classOf s.bars[n]) p.plans[n].underlap * 1440
          ∨ (p.tMin - 1) * s.node.ol < lookupTime (s.classOf s.bars[n]) p.plans[n].overlap * 1440))

/-- R102: the ceiling of a planned record is 65535 for T_min 0, else the smaller of 65535 and floor(600,000,000 / T_min); it
is the largest whole number of courses per minute whose period is at least T_min, lies in 35..65535, saturates for every
T_min of 9155 or less, is 65530 at 9156, and contains no margin. -/
def Obligations.CeilingOfRecord : Prop :=
  (∀ (s : State) (r prev : CourseRecord),
      let p := planRecord s r prev
      (p.tMin = 0 → p.ceiling = 65535)
      ∧ (p.tMin ≠ 0 → p.ceiling = min 65535 (600000000 / p.tMin))
      ∧ (p.tMin ≠ 0 → ∀ cpm, 1 ≤ cpm → cpm ≤ 65535 → (cpm ≤ p.ceiling ↔ p.tMin ≤ 600000000 / cpm))
      ∧ 35 ≤ p.ceiling ∧ p.ceiling ≤ 65535
      ∧ (p.tMin = 16777215 → p.ceiling = 35)
      ∧ (p.tMin ≤ 9155 → p.ceiling = 65535)
      ∧ (p.tMin = 9156 → p.ceiling = 65530)
      ∧ ∀ m, (planRecord { s with node := { s.node with margin := m } } r prev).ceiling = p.ceiling)
    ∧ 600000000 / 9155 = 65537

/-- COMMIT_CLASS (R65, R69): refused RANGE, STATE, BUSY by its checks in order; otherwise STARTED, with the class COMPUTING,
its present state kept as prior state, its parameters taken, and its first fetch presented to the arbiter (R23, R66); nothing
else changes. -/
def Obligations.CommitClassTaken : Prop :=
  ∀ (s : State) (env : Envelope) (cls : Byte), s.takesService → env.data = [] →
    (4 ≤ cls.toNat → exec (.commitClass env cls) s = .next (s.answered (.commitClass cls) env (.only .range)))
    ∧ (cls.toNat < 4 → s.node.state ≠ .offline → s.node.state ≠ .armed →
        exec (.commitClass env cls) s = .next (s.answered (.commitClass cls) env (.only .state)))
    ∧ (cls.toNat < 4 → s.node.state = .offline ∨ s.node.state = .armed → s.engine.commit.isSome ∨ s.store.state = .clearing →
        exec (.commitClass env cls) s = .next (s.answered (.commitClass cls) env (.only .busy)))
    ∧ (∀ c : ClassIx, cls.toNat = c.val → s.node.state = .offline ∨ s.node.state = .armed → s.engine.commit = none →
        s.store.state = .ready →
        let k := s.engine.classes[c]
        ∃ t, exec (.commitClass env cls) s = .next t
          ∧ t = { s.answered (.commitClass cls) env (.only .started) with
              engine := { s.engine with
                classes := s.engine.classes.set c { k with state := .computing }
                commit := some { cls := c, prior := k.state, spn := k.spn, length := k.length, fetched := [],
                                 raised := false, stage := .fetching, shadow := [] } }
              store := t.store }
          ∧ t = State.grant { t with store := { s.store with waitEngine := true } }
          ∧ (s.store.access = none → s.store.waitExpander = false → s.store.waitService = false →
              t.store.access = some { client := .engine, addr := 66560 + 32 * c.val, write := none, orphan := false })
          ∧ (s.store.access.isSome → t.store = { s.store with waitEngine := true }))

/-- COMMIT_SWAP (R63, R67, R95, R104): the class becomes VALID with the clamped ramp and its table of 64 move times, with
outcome CLAMPED if an entry was raised and DONE otherwise; every pending record is planned again, from head to tail, each
against the record before it; the other classes, the current record, the history and the tags stay. -/
def Obligations.CommitSwapped : Prop :=
  ∀ (s : State) (j : Commit) (k : Nat), s.engine.commit = some j → j.stage = .computing k →
    ∃ t, exec .commitSwap s = .next t
      ∧ t.engine = { s.engine with
          commit := none
          classes := s.engine.classes.set j.cls { s.engine.classes[j.cls] with
            state := .valid
            ramp := some j.fetched
            table := some ((List.range 64).map fun d => moveTime j.fetched (d * j.spn))
            outcome := if j.raised then .clamped else .done } }
      ∧ t = { s with engine := t.engine, queue := { s.queue with pending := t.queue.pending } }
      ∧ t.queue.pending.length = s.queue.pending.length
      ∧ t.queue.pending.map CourseRecord.tag = s.queue.pending.map CourseRecord.tag
      ∧ (∀ before, (s.queue.current = some before ∨ (s.queue.current = none ∧ s.queue.history.getLast? = some before)) →
          ∀ (i : Nat) (r prev : CourseRecord), s.queue.pending[i]? = some r → (before :: t.queue.pending)[i]? = some prev →
            t.queue.pending[i]? = some (planRecord { s with engine := t.engine } r prev))

/-! ### Course frames -/

/-- The checks of a course frame at hand-over, in order (R78 to R83): OFFLINE, a commit in flight, a malformed frame, a held
tag, a tag that is not the next expected one, a full pending list. In a queue whose tags are consecutive the distance of
R81 finds exactly the held tags. At the completion of an expansion the same checks are made again, but for the frame's own
form (R53). -/
def Obligations.AcceptanceChecks : Prop :=
  ∀ s : State, QueueInv s →
    (∀ f : CourseFrame, handOverCheck s f
      = if s.node.state = .offline then some .state
        else if s.engine.commit ≠ none then some .busy
        else if 8 < f.overrides.length ∨ (f.bank ≠ 0 ∧ f.bank ≠ 1) then some .malformed
        else if f.tag ∈ s.queue.held.map CourseRecord.tag then some .duplicate
        else if s.queue.expected ≠ some f.tag then some .gap
        else if s.queue.pending.length = 16 then some .full
        else none)
    ∧ ∀ tag : Word, completionCheck s tag
      = if s.node.state = .offline then some .state
        else if s.engine.commit ≠ none then some .busy
        else if tag ∈ s.queue.held.map CourseRecord.tag then some .duplicate
        else if s.queue.expected ≠ some tag then some .gap
        else if s.queue.pending.length = 16 then some .full
        else none

/-- A course frame that need not wait, refused at hand-over, changes nothing but the ring port: the frame goes on with this
node's slot written and the other seven and all else as received. The slot carries the verdict, the node state, the pending
count, the four attention flags and the least ceiling among the current and pending records (R78, R85, R103, R170, R177). -/
def Obligations.CourseFrameRefused : Prop :=
  ∀ (s : State) (f : CourseFrame) (v : Verdict), s.inReset = false → s.expander.job = none →
    s.store.staging = [] → handOverCheck s f = some v →
    ∃ (x : Slot) (g : CourseFrame), exec (.courseFrame f) s = .next { s with ring := s.courseSent f g }
      ∧ g = { f with slots := g.slots }
      ∧ (∀ k : Fin 8, g.slots[k] = if k.val = s.ring.straps.toNat then x else f.slots[k])
      ∧ x.verdict = (match v with
        | .accepted => 1 | .duplicate => 2 | .gap => 3 | .full => 4 | .state => 5 | .busy => 6 | .malformed => 7 | .ecc => 8)
      ∧ x.nodeState = (match s.node.state with
        | .offline => 0 | .armed => 1 | .running => 2 | .hold => 3 | .catchup => 4)
      ∧ (s.queue.pending.length ≤ 16 → x.pending.toNat = s.queue.pending.length)
      ∧ (x.attention.getLsbD 0 = s.faults.node.isSome)
      ∧ (x.attention.getLsbD 1 = true ↔ ∃ n : BarIx, s.faults.bars[n].isSome = true)
      ∧ (x.attention.getLsbD 2 = s.store.capture.isSome) ∧ (x.attention.getLsbD 3 = s.node.desync)
      ∧ (∀ k, 4 ≤ k → x.attention.getLsbD k = false)
      ∧ (∀ r ∈ s.queue.current.toList ++ s.queue.pending, (wordOf x.ceilingHi x.ceilingLo).toNat ≤ r.ceiling)
      ∧ ((wordOf x.ceilingHi x.ceilingLo).toNat = 65535
          ∨ ∃ r ∈ s.queue.current.toList ++ s.queue.pending, (wordOf x.ceilingHi x.ceilingLo).toNat = r.ceiling)

/-- A course frame that need not wait and passes the checks begins an expansion (R23, R37, R46, R47, R48): it takes the
reduced row's address, each bar's lap set and limit, EXCLUDED plans for bars outside MOTION and clamped OVERRIDE plans by
the last override that names the bar. It fetches for the other bars alone: by rising row word, each directly before its own
lap entries, the even bar's first. The frame is held, the first fetch is presented to the arbiter, and nothing else changes.
-/
def Obligations.CourseFrameExpands : Prop :=
  ∀ (s : State) (f : CourseFrame), s.inReset = false → s.expander.job = none → s.store.staging = [] →
    handOverCheck s f = none →
    ∃ t j, exec (.courseFrame f) s = .next t ∧ t.expander = { s.expander with job := some j }
      ∧ t = { s with expander := t.expander, store := t.store, ring := s.courseEntered f }
      ∧ (j.todo = [] → t.store = s.store)
      ∧ (j.todo ≠ [] → s.store.access.isSome ∨ s.store.state = .clearing → t.store = { s.store with waitExpander := true })
      ∧ (∀ (k : Fin 8) rest, j.todo = .rowWord k :: rest → s.store.access = none → s.store.state = .ready →
          t.store = { s.store with
            access := some { client := .expander, addr := j.rowBase + k.val, write := none, orphan := false }
            waitExpander := false })
      ∧ j.frame = f ∧ j.ticket = s.ring.nextTicket ∧ j.corrected = false ∧ j.ecc = false
      ∧ (f.bank = 0 → j.bank = .a ∧ j.rowBase = 8 * (f.row.toNat % s.expander.rowCountA))
      ∧ (f.bank = 1 → j.bank = .b ∧ j.rowBase = 32768 + 8 * (f.row.toNat % s.expander.rowCountB))
      ∧ (∀ n : BarIx, j.lapSets[n] = s.bars[n].lapSet ∧ j.limits[n] = s.bars[n].limit)
      ∧ (∀ n : BarIx, s.bars[n].mode ≠ .motion → j.plans[n].source = .excluded)
      ∧ (∀ (n : BarIx) (before after : List Override) (o : Override), s.bars[n].mode = .motion →
          f.overrides = before ++ o :: after → o.bar.toNat = (s.ring.address - 1) * 16 + n.val →
          (∀ o' ∈ after, o'.bar.toNat ≠ (s.ring.address - 1) * 16 + n.val) →
          j.plans[n].source = .override
            ∧ j.plans[n].lead = min o.lead.toNat s.bars[n].limit ∧ j.plans[n].trail = min o.trail.toNat s.bars[n].limit
            ∧ (j.plans[n].clamped = true ↔ s.bars[n].limit < o.lead.toNat ∨ s.bars[n].limit < o.trail.toNat))
      ∧ ∃ needs : BarIx → Bool,
          (∀ n : BarIx, needs n = true ↔ s.bars[n].mode = .motion
            ∧ ∀ o ∈ f.overrides, o.bar.toNat ≠ (s.ring.address - 1) * 16 + n.val)
          ∧ j.todo = (List.finRange 8).flatMap fun k =>
              let even : BarIx := ⟨2 * k.val, by omega⟩
              let odd : BarIx := ⟨2 * k.val + 1, by omega⟩
              (if needs even || needs odd then [.rowWord k] else []) ++ (if needs even then [.lapEntry even] else [])
                ++ (if needs odd then [.lapEntry odd] else [])

/-- At the completion of an expansion (R49, R50, R53, R84): when no check applies and no word was uncorrectable, the candidate
is appended with its STAND plans taken from the newest record's trails, planned against that record, the expected tag
advances, and a LIMIT is reported for each clamped plan with the candidate's tag; in every other case the queue and the
fault records stay. The frame leaves with the verdict in this node's slot. -/
def Obligations.ExpansionCompletes : Prop :=
  ∀ (s : State) (j : Expansion), s.expander.job = some j → j.todo = [] → s.ring.waiting = [] →
    (∀ prev, completionCheck s j.frame.tag = none → j.ecc = false → s.queue.newest = some prev →
      ∃ t r, exec .expansionComplete s = .next t
        ∧ t.queue = { s.queue with
            pending := s.queue.pending ++ [planRecord s r prev], expected := s.queue.expected.map (· + 1) }
        ∧ r.tag = j.frame.tag ∧ r.row = j.frame.row ∧ r.bank = j.bank ∧ r.corrected = j.corrected
        ∧ (∀ n : BarIx, r.plans[n] = if j.plans[n].source = .stand
              then { j.plans[n] with lead := prev.plans[n].trail, trail := prev.plans[n].trail } else j.plans[n])
        ∧ (∀ n : BarIx, t.faults.bars[n] = if j.plans[n].clamped
              then s.barRecord n .limit (some j.frame.tag) s.tracker.angle else s.faults.bars[n])
        ∧ t = { s with expander := { s.expander with job := none }, queue := t.queue,
                       faults := { s.faults with bars := t.faults.bars }, ring := t.ring }
        ∧ t.ring = s.ring.release j.ticket
            (cleanFrameOf (courseBody (frameWithSlot j.frame s.ring.straps (t.slot .accepted)))))
    ∧ (∀ v, completionCheck s j.frame.tag = some v ∨ (completionCheck s j.frame.tag = none ∧ j.ecc = true ∧ v = .ecc) →
      exec .expansionComplete s = .next { s with
        expander := { s.expander with job := none }
        ring := s.ring.release j.ticket (cleanFrameOf (courseBody (frameWithSlot j.frame s.ring.straps (s.slot v)))) })

/-! ### The ring -/

/-- Characters that are judged corrupt act on nothing but the ring port and, for a READ addressed to this node whose
arguments and count were received, the service path's place in the store: every other request is not taken, a LOAD stages
nothing (R33, R173, R176, R179). Sent are: a short frame as it is, a long one with the mark set at its computed length, any
other of a known kind with its last character 255 (R176; for an addressed request, and for a data count above 32, the MODEL'S
CHOICE, entries 15 and 16). A request for this node whose CRC alone is bad is sent as a reply with mark 255, its result slot,
argument block and data as received (the data of GET_FAULTS and GET_STATUS by the MODEL'S CHOICE, entry 31), but a LOAD's or
a refused READ's result slot carries the result it was examined to (R179); the two CRC characters are open (entry 13). Such a
READ that is not refused begins its reads (R35, R179; entry 28). -/
def Obligations.CorruptFramesActOnNothing : Prop :=
  ∀ (s : State) (chars : List RxChar), s.inReset = false → (judge chars).isClean = false →
    let cs := chars.map RxChar.value
    let mine := cs.getD 1 0 = 2 ∧ (cs.getD 2 0).toNat = s.ring.straps.toNat + 1
    let reads := mine ∧ cs.getD 4 0 = 2 ∧ 12 ≤ cs.length
    let start := (cs.getD 5 0).toNat * 65536 + (cs.getD 6 0).toNat * 256 + (cs.getD 7 0).toNat
    let count := (cs.getD 8 0).toNat
    let badRange := count < 1 ∨ 32 < count ∨ (cs.getD 11 0).toNat ≠ count ∨ 66687 < start + count - 1
    let meets := ∃ c : ClassIx, s.engine.classes[c].state = .computing
      ∧ ∃ k, k < count ∧ 66560 + 32 * c.val ≤ start + k ∧ start + k < 66560 + 32 * c.val + 32
    let entered := s.ring.startSeen.enter cs
    let replied := fun slot hi lo : Byte => [165, 3] ++ (cs.drop 2).take (cs.length - 6) ++ [slot, hi, lo, 255]
    ∃ t, exec (.corruptFrame chars) s = .next t
      ∧ t = { s with store := t.store, ring := t.ring } ∧ t.ring.up = s.ring.up
      ∧ t.store = { s.store with
          access := t.store.access, waitService := t.store.waitService, read := t.store.read }
      ∧ (¬ reads → t.store = s.store)
      ∧ (judge chars = .noFrame → t = s)
      ∧ (judge chars ≠ .noFrame → ¬ reads →
          ∃ sent, t = { s with ring := entered.release s.ring.nextTicket sent }
            ∧ (judge chars = .short → sent = cs)
            ∧ (∀ n, judge chars = .long n → sent = (cs.take n).dropLast ++ [255] ++ cs.drop n)
            ∧ (judge chars = .broken ∨ judge chars = .marked ∨ (judge chars = .badCrc ∧ ¬ mine) →
                sent = cs.dropLast ++ [255])
            ∧ (judge chars = .badCrc → mine → ∃ slot hi lo, sent = replied slot hi lo
                ∧ (cs.getD 4 0 ≠ 1 → slot = cs.getD (cs.length - 4) 0)
                ∧ (cs.getD 4 0 = 1 →
                    slot = if badRange then 5 else if s.store.state = .clearing ∨ meets then 6 else 1)))
      ∧ (judge chars = .badCrc → reads → s.store.staging = [] → s.store.read = none → s.expander.job = none →
          s.ring.deferred = [] →
          (badRange ∨ s.store.state = .clearing →
            ∃ hi lo, t = { s with
              ring := entered.release s.ring.nextTicket (replied (if badRange then 5 else 6) hi lo) })
          ∧ (¬ badRange → s.store.state = .ready → t.ring = entered
              ∧ ∃ r, t.store.read = some r ∧ r.start = start ∧ r.count = count ∧ r.words = [] ∧ r.firstBad = none
                ∧ r.ticket = s.ring.nextTicket ∧ r.form = .marked))

/-- A clean service frame that is no request for this node goes on as received and changes nothing but the ring port, whose
status becomes UP (R176, R179, R183). A break while the ring is UP, and a silence watch that runs out, make it LOST and
report RING_LOST; a break while it is LOST does nothing (R166, R183). Frames are sent in the order received (R175): one whose
content is known stays in the forwarding store behind a held one, and the release of the held frame at the front sends it
and those known behind it, in order, up to the next held one. -/
def Obligations.PassedFramesAndRingLost : Prop :=
  (∀ (s : State) (f : ServiceFrame), s.inReset = false → f.reply = true ∨ f.dest.toNat ≠ s.ring.straps.toNat + 1 →
      ∃ t, exec (.serviceFramePass f) s = .next t ∧ t = { s with ring := t.ring } ∧ t.ring.up = true
        ∧ t.ring.silence = some 0
        ∧ (s.ring.forwarding = [] → t.ring.forwarding = []
          ∧ t.ring.sent = s.ring.sent ++ [cleanFrameOf (serviceBody f)]))
    ∧ (∀ s : State, s.inReset = false → s.ring.up = true →
      exec .ringBreak s = .next { s with
        ring := { s.ring with up := false, silence := none }
        faults := { s.faults with node := s.nodeRecord .ringLost s.currentTag s.tracker.angle } })
    ∧ (∀ (s : State) (k : Nat), s.inReset = false → s.ring.silence = some k →
      exec .ringSilence s = .next { s with
        ring := { s.ring with up := false, silence := none }
        faults := { s.faults with node := s.nodeRecord .ringLost s.currentTag s.tracker.angle } })
    ∧ (∀ s : State, s.ring.up = false → exec .ringBreak s = .next s)
    ∧ (∀ s : State, s.ring.silence = none → exec .ringSilence s = .next s)
    ∧ (∀ (s : State) (f : ServiceFrame) (first : Forward) (rest : List Forward), s.inReset = false →
      f.reply = true ∨ f.dest.toNat ≠ s.ring.straps.toNat + 1 → s.ring.forwarding = first :: rest → first.chars = none →
      (∀ e ∈ s.ring.forwarding, e.ticket ≠ s.ring.nextTicket) →
      ∃ t, exec (.serviceFramePass f) s = .next t ∧ t.ring.sent = s.ring.sent
        ∧ t.ring.forwarding = s.ring.forwarding ++ [{ ticket := s.ring.nextTicket, received := cleanFrameOf (serviceBody f),
                                                      chars := some (cleanFrameOf (serviceBody f)) }])
    ∧ (∀ (r : Ring) (first held : Forward) (ahead behind : List Forward) (chars : List Byte),
      r.forwarding = first :: ahead ++ held :: behind → first.chars = none →
      (∀ e ∈ first :: ahead ++ behind, e.ticket ≠ held.ticket) →
      r.release held.ticket chars = { r with forwarding := first :: ahead ++ { held with chars := some chars } :: behind })
    ∧ (∀ (r : Ring) (held : Forward) (known : List (Nat × List Byte × List Byte)) (later : List Forward) (chars : List Byte),
      r.forwarding = held :: known.map (fun e => { ticket := e.1, received := e.2.1, chars := some e.2.2 }) ++ later →
      (∀ e ∈ known, e.1 ≠ held.ticket) → (∀ e ∈ later, e.ticket ≠ held.ticket) → (∀ e ∈ later.head?, e.chars = none) →
      r.release held.ticket chars = { r with
        forwarding := later
        sent := r.sent ++ chars :: known.map fun e => e.2.2 })

/-- Every well-formed course frame and service frame, sent clean, is judged clean and read back as the same frame (R173,
R174, R185). -/
def Obligations.FramesRoundTrip : Prop :=
  (∀ f : CourseFrame, f.wf = true → judge (received (cleanFrameOf (courseBody f))) = .cleanCourse f)
    ∧ (∀ f : ServiceFrame, f.wf = true → judge (received (cleanFrameOf (serviceBody f))) = .cleanService f)

/-- Requests and replies as characters. Every well-formed service operation is read back from the op and the argument bytes
that carry it, which are those of chapter 12's tables, whatever the bytes it does not read; received as a frame addressed to
this node it is taken as that request (R179, R181, R186). A reply is sent as the characters of a SERVICE_REPLY that is
judged clean: destination, sequence and op as received, the result's code in the result slot, in the argument block the
value of a GET_PARAM in a2-a3, the index of a READ's first bad word in a4 and the reason of a NOT_READY in a5, all else as
received, and the data words rewritten where the operation says (R176, R179, R180, R186). -/
def Obligations.RequestsRoundTrip : Prop :=
  ∀ (op : ServiceOp) (env : Envelope),
    let high := fun w : Word => BitVec.ofNat 8 (w.toNat / 256)
    let low := fun w : Word => BitVec.ofNat 8 (w.toNat % 256)
    let opCode : Byte := match op with
      | .load .. => 1 | .read .. => 2 | .getParam .. => 4 | .commitClass .. => 5 | .arm .. => 6 | .disarm => 7
      | .resume => 8 | .restart => 9 | .jog .. => 10 | .reference .. => 11 | .getStatus .. => 12 | .getFaults => 13
      | .clearFault .. => 14 | .unknownOp b => b | _ => 3
    let from24 := fun (start : BitVec 24) (count : Byte) => { env.spare with
      a0 := BitVec.ofNat 8 (start.toNat / 65536), a1 := BitVec.ofNat 8 (start.toNat / 256 % 256),
      a2 := BitVec.ofNat 8 (start.toNat % 256), a3 := count }
    let param := fun (identity index : Byte) (v : Word) =>
      { env.spare with a0 := identity, a1 := index, a2 := high v, a3 := low v }
    let unread := env.spare.a1
    let block : Args := match op with
      | .load start count | .read start count => from24 start count
      | .setRowCount .a v => param 1 unread v | .setRowCount .b v => param 2 unread v
      | .setMargin v => param 3 unread v | .setStandstillTimeout v => param 4 unread v
      | .setWindow .us v => param 5 unread v | .setWindow .ul v => param 6 unread v
      | .setWindow .os v => param 7 unread v | .setWindow .ol v => param 8 unread v
      | .setGuardEnable v => param 9 unread v | .setDiagnosticCheckMode v => param 10 unread v
      | .setDiagnosticCheckValue v => param 11 unread v
      | .setStepsPerNeedle c v => param 16 c v | .setRampLength c v => param 17 c v
      | .setMode b v => param 32 b v | .setClass b v => param 33 b v | .setLapSet b v => param 34 b v
      | .setTravelLimit b v => param 35 b v | .setTrim b v => param 36 b v | .setHomePosition b v => param 37 b v
      | .setHomePolarity b v => param 38 b v | .unknownParameter identity index v => param identity index v
      | .getParam identity index => { env.spare with a0 := identity, a1 := index }
      | .commitClass c => { env.spare with a0 := c }
      | .arm tag => { env.spare with a0 := high tag, a1 := low tag }
      | .jog b n => { env.spare with a0 := b, a1 := high n, a2 := low n }
      | .reference b => { env.spare with a0 := b }
      | .getStatus p b => { env.spare with a0 := p, a1 := b }
      | .clearFault t b => { env.spare with a0 := t, a1 := b }
      | .disarm | .resume | .restart | .getFaults | .unknownOp _ => env.spare
    opByte op = opCode ∧ argsOf op env.spare = block
    ∧ (op.wf = true → decodeOp (opByte op) (argsOf op env.spare) = op
      ∧ (env.wf = true → ∀ s : State,
          exec (.corruptFrame (received (cleanFrameOf (serviceBody
              (requestFrame (BitVec.ofNat 8 (s.ring.straps.toNat + 1)) op env))))) s
            = .next (s.serviceRequest op { env with spare := argsOf op env.spare })))
    ∧ (∀ (s : State) (rep : Reply), env.data.length ≤ 32 → (∀ ws, rep.data = some ws → ws.length ≤ 32) →
      let dest := BitVec.ofNat 8 (s.ring.straps.toNat + 1)
      let data := rep.data.getD env.data
      let slot : Byte := match rep.result with
        | .done => 1 | .started => 2 | .clamped => 3 | .state => 4 | .range => 5 | .busy => 6 | .notReady => 7
        | .eccFail => 8 | .unknownOp => 9
      let sent : Args := {
        a0 := block.a0
        a1 := block.a1
        a2 := match rep.value with | some v => high v | none => block.a2
        a3 := match rep.value with | some v => low v | none => block.a3
        a4 := match rep.bad with | some k => BitVec.ofNat 8 k | none => block.a4
        a5 := match rep.reason with
          | some .angle => 1 | some .cls => 2 | some .unreferenced => 3 | some .offNeedle => 4 | some .windows => 5
          | some .diag => 6 | some .desync => 7 | some .shaft => 8 | none => block.a5 }
      judge (received (rep.chars .clean s.ring.address op env)) = .cleanService {
          reply := true, dest := dest, seq := env.seq, op := opCode, args := sent, data := data, slot := slot }
        ∧ ∃ hi lo : Byte, rep.chars .clean s.ring.address op env
          = [165, 3, dest, env.seq, opCode, sent.a0, sent.a1, sent.a2, sent.a3, sent.a4, sent.a5, BitVec.ofNat 8 data.length]
            ++ data.flatMap (fun w => [high w, low w]) ++ [slot, hi, lo, 0])

/-! ### Service requests -/

/-- A request that arrives while a LOAD's words, a READ, an expansion or an earlier request is still under way is held and
changes nothing but the ring port (R34; MODEL'S CHOICE beyond the staged words, entry 17); once the path is free the first
one held is taken, and no sooner; a READ then begins its reads, or is refused RANGE or BUSY (R35). A course frame that arrives
during an expansion or before a LOAD's last staged word is written waits too, since an expansion meets neither (R34, R46); the
completion of the one or the last write of the other hands it over (MODEL'S CHOICE, entry 17). -/
def Obligations.RequestsWaitTheirTurn : Prop :=
  (∀ (c : Instr) (op : ServiceOp) (env : Envelope) (s : State), c.request = some (op, env) → s.inReset = false →
      s.store.staging ≠ [] ∨ s.store.read ≠ none ∨ s.expander.job ≠ none ∨ s.ring.deferred ≠ [] →
      exec c s = .next { s with
        homes := c.homesSeen s.homes
        ring := { s.requestEntered op env with deferred := s.ring.deferred
          ++ [{ op := op, env := env, ticket := s.ring.nextTicket, form := .clean }] } })
    ∧ (∀ (s : State) (homes : BitVec 16), s.store.staging ≠ [] ∨ s.store.read ≠ none ∨ s.expander.job ≠ none →
      exec (.deferredServiceOp homes) s = .next { s with homes := homes })
    ∧ (∀ (s : State) (homes : BitVec 16) (d : Deferred) (rest : List Deferred),
      s.store.staging = [] → s.store.read = none → s.expander.job = none → s.ring.deferred = d :: rest →
      (∀ start count, d.op ≠ .read start count) →
      ∃ t : State, exec (.deferredServiceOp homes) s = .next t
        ∧ t = { (immediateOp d.op d.env.data { s with homes := homes, ring := { s.ring with deferred := rest } }).1 with
            ring := { s.ring with deferred := rest }.release d.ticket
              ((immediateOp d.op d.env.data { s with homes := homes, ring := { s.ring with deferred := rest } }).2.chars
                d.form s.ring.address d.op d.env) })
    ∧ (∀ (s : State) (homes : BitVec 16) (d : Deferred) (rest : List Deferred) (start : BitVec 24) (count : Byte),
      s.store.staging = [] → s.store.read = none → s.expander.job = none → s.ring.deferred = d :: rest →
      d.op = .read start count →
      let badRange := count.toNat < 1 ∨ 32 < count.toNat ∨ d.env.data.length ≠ count.toNat
        ∨ 66687 < start.toNat + count.toNat - 1
      let refused := fun r : Result => exec (.deferredServiceOp homes) s = .next { s with
        homes := homes
        ring := { s.ring with deferred := rest }.release d.ticket
          ((Reply.only r).chars d.form s.ring.address d.op d.env) }
      (badRange → refused .range)
      ∧ (¬ badRange → s.store.state = .clearing → refused .busy)
      ∧ (¬ badRange → s.store.state = .ready → exec (.deferredServiceOp homes) s = .next (State.grant { s with
          homes := homes
          ring := { s.ring with deferred := rest }
          store := { s.store with
            waitService := true
            read := some { start := start.toNat, count := count.toNat, words := [], firstBad := none, op := d.op,
                           env := d.env, ticket := d.ticket, form := d.form } } })))
    ∧ (∀ (s : State) (f : CourseFrame), s.inReset = false → s.expander.job ≠ none ∨ s.store.staging ≠ [] →
      exec (.courseFrame f) s = .next { s with
        ring := { s.courseEntered f with waiting := s.ring.waiting ++ [(s.ring.nextTicket, f)] } })
    ∧ (∀ (c : Instr) (s : State) (ticket : Nat) (f : CourseFrame) (rest : List (Nat × CourseFrame)),
      s.ring.waiting = (ticket, f) :: rest →
      (c = .expansionComplete ∧ s.store.staging = [] ∧ ∃ j, s.expander.job = some j ∧ j.todo = [])
        ∨ (c = .wordAccessComplete ∧ s.expander.job = none ∧ s.store.staging.length ≤ 1 ∧ ∃ addr w, addr < 66688
          ∧ s.store.access = some { client := .service, addr := addr, write := some w, orphan := false }) →
      ∃ u t : State, exec c { s with ring := { s.ring with waiting := [] } } = .next u ∧ exec c s = .next t
        ∧ (handOverCheck u f = none → ∃ j, j.frame = f ∧ j.ticket = ticket
          ∧ t = { u with
              expander := { u.expander with job := some j }
              store := { u.store with
                access := t.store.access
                waitExpander := t.store.waitExpander
                waitService := t.store.waitService
                waitEngine := t.store.waitEngine }
              ring := { u.ring with waiting := rest } })
        ∧ (∀ v, handOverCheck u f = some v → rest = [] → t = { u with
            ring := u.ring.release ticket (cleanFrameOf (courseBody (frameWithSlot f u.ring.straps (u.slot v)))) }))

/-- A request answered STATE, RANGE, BUSY, NOT_READY or UNKNOWN_OP changes nothing in the node but the ring port (R180). An
op or a parameter identity that names nothing is answered UNKNOWN_OP or RANGE, and an operation other than LOAD, READ,
GET_STATUS and GET_FAULTS with data words RANGE (R180, R181). -/
def Obligations.RefusalsChangeNothing : Prop :=
  (∀ (c : Instr) (op : ServiceOp) (env : Envelope) (s : State), c.request = some (op, env) → s.takesService →
      (∀ start count, op ≠ .read start count) →
      let r := immediateOp op env.data { s with homes := c.homesSeen s.homes, ring := s.requestEntered op env }
      r.2.result = .state ∨ r.2.result = .range ∨ r.2.result = .busy ∨ r.2.result = .notReady ∨ r.2.result = .unknownOp →
      exec c s = .next { s with homes := c.homesSeen s.homes, ring := s.ringAnswered op env r.2 })
    ∧ (∀ (s : State) (env : Envelope) (op : Byte), s.takesService →
      exec (.unknownOp env op) s = .next (s.answered (.unknownOp op) env (.only .unknownOp)))
    ∧ (∀ (s : State) (env : Envelope) (identity index : Byte) (v : Word), s.takesService →
      exec (.unknownParameter env identity index v) s
        = .next (s.answered (.unknownParameter identity index v) env (.only .range)))
    ∧ (∀ (c : Instr) (op : ServiceOp) (env : Envelope) (s : State), c.request = some (op, env) → s.takesService →
      env.data ≠ [] → (∀ a n, op ≠ .load a n) → (∀ a n, op ≠ .read a n) → (∀ p b, op ≠ .getStatus p b) → op ≠ .getFaults →
      (∀ b, op ≠ .unknownOp b) →
      exec c s = .next { s with homes := c.homesSeen s.homes, ring := s.ringAnswered op env (.only .range) })

/-- SET_PARAM of a node parameter in its range (R15, R30, R38, R105, R120, R129): DONE with the new value, the windows and the
turning on of diagnostic check mode in OFFLINE alone, and a guard enable once set kept; out of range RANGE. -/
def Obligations.NodeParametersSet : Prop :=
  ∀ (s : State) (env : Envelope) (v : Word), s.takesService → env.data = [] →
    (1 ≤ v.toNat → v.toNat ≤ 4096 →
      exec (.setRowCount env .a v) s = .next { s.answered (.setRowCount .a v) env (.only .done) with
        expander := { s.expander with rowCountA := v.toNat } }
      ∧ exec (.setRowCount env .b v) s = .next { s.answered (.setRowCount .b v) env (.only .done) with
        expander := { s.expander with rowCountB := v.toNat } })
    ∧ (v.toNat < 1 ∨ 4096 < v.toNat → ∀ bank,
      exec (.setRowCount env bank v) s = .next (s.answered (.setRowCount bank v) env (.only .range)))
    ∧ (v.toNat ≤ 64 → exec (.setMargin env v) s = .next { s.answered (.setMargin v) env (.only .done) with
        node := { s.node with margin := v.toNat } })
    ∧ (64 < v.toNat → exec (.setMargin env v) s = .next (s.answered (.setMargin v) env (.only .range)))
    ∧ (2 ≤ v.toNat → v.toNat ≤ 255 →
      exec (.setStandstillTimeout env v) s = .next { s.answered (.setStandstillTimeout v) env (.only .done) with
        tracker := { s.tracker with timeout := v.toNat } })
    ∧ (v.toNat < 2 ∨ 255 < v.toNat →
      exec (.setStandstillTimeout env v) s = .next (s.answered (.setStandstillTimeout v) env (.only .range)))
    ∧ (v.toNat ≤ 1439 → s.node.state = .offline →
      exec (.setWindow env .us v) s
        = .next { s.answered (.setWindow .us v) env (.only .done) with node := { s.node with us := v.toNat } }
      ∧ exec (.setWindow env .os v) s
        = .next { s.answered (.setWindow .os v) env (.only .done) with node := { s.node with os := v.toNat } })
    ∧ (16 ≤ v.toNat → v.toNat ≤ 720 → s.node.state = .offline →
      exec (.setWindow env .ul v) s
        = .next { s.answered (.setWindow .ul v) env (.only .done) with node := { s.node with ul := v.toNat } }
      ∧ exec (.setWindow env .ol v) s
        = .next { s.answered (.setWindow .ol v) env (.only .done) with node := { s.node with ol := v.toNat } })
    ∧ (∀ w, s.node.state ≠ .offline → (w = .us ∨ w = .os → v.toNat ≤ 1439) →
      (w = .ul ∨ w = .ol → 16 ≤ v.toNat ∧ v.toNat ≤ 720) →
      exec (.setWindow env w v) s = .next (s.answered (.setWindow w v) env (.only .state)))
    ∧ (∀ w, (w = .us ∨ w = .os) ∧ 1439 < v.toNat ∨ (w = .ul ∨ w = .ol) ∧ (v.toNat < 16 ∨ 720 < v.toNat) →
      exec (.setWindow env w v) s = .next (s.answered (.setWindow w v) env (.only .range)))
    ∧ (v = 1 → exec (.setGuardEnable env v) s = .next { s.answered (.setGuardEnable v) env (.only .done) with
        node := { s.node with guardEnable := true } })
    ∧ (v = 0 → exec (.setGuardEnable env v) s
        = .next (s.answered (.setGuardEnable v) env (.only (if s.node.guardEnable then .state else .done))))
    ∧ (2 ≤ v.toNat → exec (.setGuardEnable env v) s = .next (s.answered (.setGuardEnable v) env (.only .range)))
    ∧ (v = 1 → s.node.state = .offline →
      exec (.setDiagnosticCheckMode env v) s = .next { s.answered (.setDiagnosticCheckMode v) env (.only .done) with
        store := { s.store with diagMode := true } })
    ∧ (v = 1 → s.node.state ≠ .offline →
      exec (.setDiagnosticCheckMode env v) s = .next (s.answered (.setDiagnosticCheckMode v) env (.only .state)))
    ∧ (v = 0 → exec (.setDiagnosticCheckMode env v) s = .next { s.answered (.setDiagnosticCheckMode v) env (.only .done) with
        store := { s.store with diagMode := false } })
    ∧ (2 ≤ v.toNat →
      exec (.setDiagnosticCheckMode env v) s = .next (s.answered (.setDiagnosticCheckMode v) env (.only .range)))
    ∧ (v.toNat ≤ 63 →
      exec (.setDiagnosticCheckValue env v) s = .next { s.answered (.setDiagnosticCheckValue v) env (.only .done) with
        store := { s.store with diagValue := v.setWidth 6 } })
    ∧ (63 < v.toNat →
      exec (.setDiagnosticCheckValue env v) s = .next (s.answered (.setDiagnosticCheckValue v) env (.only .range)))

/-- SET_PARAM of a class's steps per needle and ramp length, and of a bar's class and travel limit (R56, R57, R111): in
OFFLINE, with the class not COMPUTING and the bars concerned STILL, a value in range is taken, a VALID class becoming STALE;
a value that would leave a referenced bar above its travel limit is refused RANGE. The refusals come in their order: a class
number above 3 or a value out of its range RANGE; outside OFFLINE STATE; a COMPUTING class, a MOVING or SEARCHING bar of the
class, or of a bar's own parameter that bar, BUSY. -/
def Obligations.ClassAndTravelSet : Prop :=
  ∀ (s : State) (env : Envelope) (index : Byte) (v : Word), s.takesService → env.data = [] →
    (∀ c : ClassIx, index.toNat = c.val →
      let k := s.engine.classes[c]
      let told := if k.state = .valid then ClassState.stale else k.state
      (1 ≤ v.toNat → v.toNat ≤ 32 → s.node.state = .offline → k.state ≠ .computing →
        (∀ n : BarIx, s.bars[n].cls = c → s.bars[n].motion = .still) →
        exec (.setRampLength env index v) s = .next { s.answered (.setRampLength index v) env (.only .done) with
          engine := { s.engine with classes := s.engine.classes.set c { k with state := told, length := v.toNat } } })
      ∧ (4 ≤ v.toNat → v.toNat ≤ 64 → s.node.state = .offline → k.state ≠ .computing →
        (∀ n : BarIx, s.bars[n].cls = c → s.bars[n].motion = .still) →
        ((∀ n : BarIx, s.bars[n].cls = c → s.bars[n].referenced = true → s.bars[n].pos ≤ s.bars[n].limit * v.toNat) →
          exec (.setStepsPerNeedle env index v) s = .next { s.answered (.setStepsPerNeedle index v) env (.only .done) with
            engine := { s.engine with classes := s.engine.classes.set c { k with state := told, spn := v.toNat } } })
        ∧ ((∃ n : BarIx, s.bars[n].cls = c ∧ s.bars[n].referenced = true ∧ s.bars[n].limit * v.toNat < s.bars[n].pos) →
          exec (.setStepsPerNeedle env index v) s
            = .next (s.answered (.setStepsPerNeedle index v) env (.only .range))))
      ∧ (4 ≤ v.toNat → v.toNat ≤ 64 → s.node.state ≠ .offline →
        exec (.setStepsPerNeedle env index v) s = .next (s.answered (.setStepsPerNeedle index v) env (.only .state)))
      ∧ (4 ≤ v.toNat → v.toNat ≤ 64 → s.node.state = .offline →
        k.state = .computing ∨ (∃ n : BarIx, s.bars[n].cls = c ∧ s.bars[n].motion ≠ .still) →
        exec (.setStepsPerNeedle env index v) s = .next (s.answered (.setStepsPerNeedle index v) env (.only .busy)))
      ∧ (1 ≤ v.toNat → v.toNat ≤ 32 → s.node.state ≠ .offline →
        exec (.setRampLength env index v) s = .next (s.answered (.setRampLength index v) env (.only .state)))
      ∧ (1 ≤ v.toNat → v.toNat ≤ 32 → s.node.state = .offline →
        k.state = .computing ∨ (∃ n : BarIx, s.bars[n].cls = c ∧ s.bars[n].motion ≠ .still) →
        exec (.setRampLength env index v) s = .next (s.answered (.setRampLength index v) env (.only .busy))))
    ∧ (4 ≤ index.toNat ∨ v.toNat < 4 ∨ 64 < v.toNat →
        exec (.setStepsPerNeedle env index v) s = .next (s.answered (.setStepsPerNeedle index v) env (.only .range)))
    ∧ (4 ≤ index.toNat ∨ v.toNat < 1 ∨ 32 < v.toNat →
        exec (.setRampLength env index v) s = .next (s.answered (.setRampLength index v) env (.only .range)))
    ∧ (16 ≤ index.toNat ∨ 3 < v.toNat →
        exec (.setClass env index v) s = .next (s.answered (.setClass index v) env (.only .range)))
    ∧ (16 ≤ index.toNat ∨ 63 < v.toNat →
        exec (.setTravelLimit env index v) s = .next (s.answered (.setTravelLimit index v) env (.only .range)))
    ∧ (∀ n : BarIx, index.toNat = n.val →
      (s.node.state ≠ .offline →
        (v.toNat ≤ 3 → exec (.setClass env index v) s = .next (s.answered (.setClass index v) env (.only .state)))
        ∧ (v.toNat ≤ 63 →
          exec (.setTravelLimit env index v) s = .next (s.answered (.setTravelLimit index v) env (.only .state))))
      ∧ (s.node.state = .offline → s.bars[n].motion ≠ .still →
        (v.toNat ≤ 3 → exec (.setClass env index v) s = .next (s.answered (.setClass index v) env (.only .busy)))
        ∧ (v.toNat ≤ 63 →
          exec (.setTravelLimit env index v) s = .next (s.answered (.setTravelLimit index v) env (.only .busy)))))
    ∧ (∀ n : BarIx, index.toNat = n.val → s.node.state = .offline → s.bars[n].motion = .still →
      (∀ c : ClassIx, v.toNat = c.val →
        s.bars[n].referenced = false ∨ s.bars[n].pos ≤ s.bars[n].limit * s.engine.classes[c].spn →
        exec (.setClass env index v) s
          = .next ((s.answered (.setClass index v) env (.only .done)).setBar n { s.bars[n] with cls := c }))
      ∧ (∀ c : ClassIx, v.toNat = c.val →
        s.bars[n].referenced = true → s.bars[n].limit * s.engine.classes[c].spn < s.bars[n].pos →
        exec (.setClass env index v) s = .next (s.answered (.setClass index v) env (.only .range)))
      ∧ (v.toNat ≤ 63 → s.bars[n].referenced = false ∨ s.bars[n].pos ≤ v.toNat * (s.classOf s.bars[n]).spn →
        exec (.setTravelLimit env index v) s
          = .next ((s.answered (.setTravelLimit index v) env (.only .done)).setBar n { s.bars[n] with limit := v.toNat }))
      ∧ (v.toNat ≤ 63 → s.bars[n].referenced = true → v.toNat * (s.classOf s.bars[n]).spn < s.bars[n].pos →
        exec (.setTravelLimit env index v) s = .next (s.answered (.setTravelLimit index v) env (.only .range))))

/-- SET_PARAM of a bar's mode, lap set, trim, home position and home polarity (R41, R109, R110, R112, R121, R156, R186):
entering PARKED drops the enable output and the reference; a trim is written to the pending trim, and in OFFLINE to the
active trim too; a lap set outside OFFLINE is refused STATE, and a lap set above 3, a home position above 4032, a polarity
other than 0 and 1 and a bar number above 15 are refused RANGE. -/
def Obligations.BarParametersSet : Prop :=
  ∀ (s : State) (env : Envelope) (index : Byte) (v : Word), s.takesService → env.data = [] →
    (∀ n : BarIx, index.toNat = n.val →
      let b := s.bars[n]
      (s.node.state = .offline → b.motion = .still →
        (v = 0 → b.mode ≠ .parked → exec (.setMode env index v) s
          = .next ((s.answered (.setMode index v) env (.only .done)).setBar n
              { b with mode := .parked, enable := false, referenced := false, pos := 0, target := 0 }))
        ∧ (v = 1 → b.mode ≠ .jog → exec (.setMode env index v) s
          = .next ((s.answered (.setMode index v) env (.only .done)).setBar n { b with mode := .jog, enable := true }))
        ∧ (v = 2 → b.mode ≠ .motion → exec (.setMode env index v) s
          = .next ((s.answered (.setMode index v) env (.only .done)).setBar n { b with mode := .motion, enable := true }))
        ∧ (v.toNat = modeNumber b.mode →
          exec (.setMode env index v) s = .next ((s.answered (.setMode index v) env (.only .done)).setBar n b)))
      ∧ (v.toNat ≤ 2 → s.node.state ≠ .offline →
        exec (.setMode env index v) s = .next (s.answered (.setMode index v) env (.only .state)))
      ∧ (v.toNat ≤ 2 → s.node.state = .offline → b.motion ≠ .still →
        exec (.setMode env index v) s = .next (s.answered (.setMode index v) env (.only .busy)))
      ∧ (3 ≤ v.toNat → exec (.setMode env index v) s = .next (s.answered (.setMode index v) env (.only .range)))
      ∧ (∀ l : Fin 4, v.toNat = l.val → s.node.state = .offline → exec (.setLapSet env index v) s
          = .next ((s.answered (.setLapSet index v) env (.only .done)).setBar n { b with lapSet := l }))
      ∧ (v.toNat ≤ 3 → s.node.state ≠ .offline →
          exec (.setLapSet env index v) s = .next (s.answered (.setLapSet index v) env (.only .state)))
      ∧ (4 ≤ v.toNat → exec (.setLapSet env index v) s = .next (s.answered (.setLapSet index v) env (.only .range)))
      ∧ (4032 < v.toNat →
          exec (.setHomePosition env index v) s = .next (s.answered (.setHomePosition index v) env (.only .range)))
      ∧ (2 ≤ v.toNat →
          exec (.setHomePolarity env index v) s = .next (s.answered (.setHomePolarity index v) env (.only .range)))
      ∧ (-64 ≤ v.toInt → v.toInt ≤ 63 → exec (.setTrim env index v) s
          = .next ((s.answered (.setTrim index v) env (.only .done)).setBar n { b with
              pendingTrim := v.toInt, activeTrim := if s.node.state = .offline then v.toInt else b.activeTrim }))
      ∧ (v.toInt < -64 ∨ 63 < v.toInt →
          exec (.setTrim env index v) s = .next (s.answered (.setTrim index v) env (.only .range)))
      ∧ (v.toNat ≤ 4032 → exec (.setHomePosition env index v) s
          = .next ((s.answered (.setHomePosition index v) env (.only .done)).setBar n { b with homePos := v.toNat }))
      ∧ (v.toNat ≤ 1 → exec (.setHomePolarity env index v) s
          = .next ((s.answered (.setHomePolarity index v) env (.only .done)).setBar n
              { b with homePol := if v = 0 then .activeLow else .activeHigh })))
    ∧ (16 ≤ index.toNat →
        exec (.setMode env index v) s = .next (s.answered (.setMode index v) env (.only .range))
        ∧ exec (.setClass env index v) s = .next (s.answered (.setClass index v) env (.only .range))
        ∧ exec (.setLapSet env index v) s = .next (s.answered (.setLapSet index v) env (.only .range))
        ∧ exec (.setTravelLimit env index v) s = .next (s.answered (.setTravelLimit index v) env (.only .range))
        ∧ exec (.setTrim env index v) s = .next (s.answered (.setTrim index v) env (.only .range))
        ∧ exec (.setHomePosition env index v) s = .next (s.answered (.setHomePosition index v) env (.only .range))
        ∧ exec (.setHomePolarity env index v) s = .next (s.answered (.setHomePolarity index v) env (.only .range)))

/-- GET_PARAM (R121, R181): the parameter's value as it stands is written into the reply's argument block, whose characters
RequestsRoundTrip gives, and nothing else changes; the index of a node parameter is not read; an identity or an index outside
the tables is answered RANGE. -/
def Obligations.ParametersRead : Prop :=
  ∀ (s : State) (env : Envelope) (index : Byte), s.takesService → env.data = [] →
    let answer := fun (identity : Byte) (v : Word) => exec (.getParam env identity index) s
      = .next (s.answered (.getParam identity index) env { result := .done, value := some v })
    answer 1 (BitVec.ofNat 16 s.expander.rowCountA) ∧ answer 2 (BitVec.ofNat 16 s.expander.rowCountB)
    ∧ answer 3 (BitVec.ofNat 16 s.node.margin) ∧ answer 4 (BitVec.ofNat 16 s.tracker.timeout)
    ∧ answer 5 (BitVec.ofNat 16 s.node.us) ∧ answer 6 (BitVec.ofNat 16 s.node.ul)
    ∧ answer 7 (BitVec.ofNat 16 s.node.os) ∧ answer 8 (BitVec.ofNat 16 s.node.ol)
    ∧ answer 9 (if s.node.guardEnable then 1 else 0) ∧ answer 10 (if s.store.diagMode then 1 else 0)
    ∧ answer 11 (BitVec.ofNat 16 s.store.diagValue.toNat)
    ∧ (∀ c : ClassIx, index.toNat = c.val →
        answer 16 (BitVec.ofNat 16 s.engine.classes[c].spn) ∧ answer 17 (BitVec.ofNat 16 s.engine.classes[c].length))
    ∧ (∀ n : BarIx, index.toNat = n.val →
        answer 32 (match s.bars[n].mode with | .parked => 0 | .jog => 1 | .motion => 2)
        ∧ answer 33 (BitVec.ofNat 16 s.bars[n].cls.val) ∧ answer 34 (BitVec.ofNat 16 s.bars[n].lapSet.val)
        ∧ answer 35 (BitVec.ofNat 16 s.bars[n].limit) ∧ answer 36 (BitVec.ofInt 16 s.bars[n].activeTrim)
        ∧ answer 37 (BitVec.ofNat 16 s.bars[n].homePos)
        ∧ answer 38 (match s.bars[n].homePol with | .activeLow => 0 | .activeHigh => 1))
    ∧ (∀ identity : Byte, knownIdentity identity = false
          ∨ ((identity = 16 ∨ identity = 17) ∧ 4 ≤ index.toNat) ∨ (32 ≤ identity.toNat ∧ 16 ≤ index.toNat) →
        exec (.getParam env identity index) s = .next (s.answered (.getParam identity index) env (.only .range)))

/-- ARM with its conditions met places the origin record, empties the other places, expects the first tag, makes the trims
active and arms the node (R76, R77, R139, R140, R141). Outside OFFLINE it is refused STATE; a store being cleared or a MOTION
bar MOVING refuses it BUSY; then the first condition that fails gives NOT_READY with its reason: ANGLE, CLASS, UNREFERENCED,
OFF_NEEDLE, WINDOWS, DIAG, in this order. DISARM, and RESTART with every bar STILL and no commit, empty the queue and leave
the node OFFLINE out of DESYNC with the stop request asserted and the trims active; RESTART also empties the fault records and
the capture record and zeroes the corrected count; all else is kept (R77, R149, R150). -/
def Obligations.ArmDisarmRestart : Prop :=
  ∀ (s : State) (env : Envelope), s.takesService → env.data = [] →
    let used := fun p : Bar → Prop => ∃ n : BarIx, s.bars[n].mode = .motion ∧ p s.bars[n]
    let unclassed := used fun b => (s.classOf b).state ≠ .valid
    let unreferenced := used fun b => b.referenced = false
    let offNeedle := used fun b => b.pos % (s.classOf b).spn ≠ 0
    let windowsBad := s.node.us < 1 ∨ s.node.os < s.node.us + s.node.ul ∨ 1439 < s.node.os + s.node.ol
    (∀ tag : Word, s.node.state ≠ .offline → exec (.arm env tag) s = .next (s.answered (.arm tag) env (.only .state)))
    ∧ (∀ tag : Word, s.node.state = .offline → s.store.state = .clearing ∨ (used fun b => ∃ m, b.motion = .moving m) →
        exec (.arm env tag) s = .next (s.answered (.arm tag) env (.only .busy)))
    ∧ (∀ tag : Word, s.node.state = .offline → s.store.state = .ready → (¬ used fun b => ∃ m, b.motion = .moving m) →
      let refused := fun reason => exec (.arm env tag) s = .next (s.answered (.arm tag) env (.notReady reason))
      (s.tracker.angleValid = false → refused .angle)
      ∧ (s.tracker.angleValid = true → unclassed → refused .cls)
      ∧ (s.tracker.angleValid = true → ¬ unclassed → unreferenced → refused .unreferenced)
      ∧ (s.tracker.angleValid = true → ¬ unclassed → ¬ unreferenced → offNeedle → refused .offNeedle)
      ∧ (s.tracker.angleValid = true → ¬ unclassed → ¬ unreferenced → ¬ offNeedle → windowsBad → refused .windows)
      ∧ (s.tracker.angleValid = true → ¬ unclassed → ¬ unreferenced → ¬ offNeedle → ¬ windowsBad →
          s.store.diagMode = true → refused .diag)
      ∧ (s.tracker.angleValid = true → ¬ unclassed → ¬ unreferenced → ¬ offNeedle → ¬ windowsBad →
          s.store.diagMode = false →
        ∃ t origin, exec (.arm env tag) s = .next t
          ∧ t = { s.answered (.arm tag) env (.only .done) with
              queue := { history := [origin], current := none, pending := [], expected := some tag, dueCheck := none }
              bars := t.bars
              node := { s.node with state := .armed, stopReq := false } }
          ∧ trimsActive s t
          ∧ origin.tag = tag - 1 ∧ origin.row = 0 ∧ origin.bank = .a ∧ origin.corrected = false ∧ origin.tMin = 0
          ∧ origin.ceiling = 65535
          ∧ (∀ n : BarIx, s.bars[n].mode = .motion → origin.plans[n] = {
              source := .stand, lead := s.bars[n].pos / (s.classOf s.bars[n]).spn,
              trail := s.bars[n].pos / (s.classOf s.bars[n]).spn, clamped := false, underlap := 0, overlap := 0 })
          ∧ (∀ n : BarIx, s.bars[n].mode ≠ .motion → origin.plans[n].source = .excluded)))
    ∧ (∃ t, exec (.disarm env) s = .next t ∧ trimsActive s t
        ∧ t = { s.answered .disarm env (.only .done) with
            queue := { history := [], current := none, pending := [], expected := none, dueCheck := none }
            bars := t.bars
            node := { s.node with state := .offline, stopReq := true, desync := false, catchup := noTargets } })
    ∧ ((∀ n : BarIx, s.bars[n].motion = .still) → s.engine.commit = none →
        ∃ t, exec (.restart env) s = .next t ∧ trimsActive s t
          ∧ t = { s.answered .restart env (.only .done) with
              queue := { history := [], current := none, pending := [], expected := none, dueCheck := none }
              bars := t.bars
              node := { s.node with state := .offline, stopReq := true, desync := false, catchup := noTargets }
              faults := { node := none, bars := t.faults.bars }
              store := { s.store with capture := none, corrected := 0 } }
          ∧ ∀ n : BarIx, t.faults.bars[n] = none)

/-- RESUME (R118, R143 to R146): refused STATE outside HOLD, NOT_READY with DESYNC set or the shaft not STOPPED; otherwise
STARTED: each MOTION bar's catch-up target is read from the standing angle against its window edges, a STILL bar away from
it starts a move, and the node is in CATCHUP, or in RUNNING when every MOTION bar already stands at its target. -/
def Obligations.ResumeTaken : Prop :=
  ∀ (s : State) (env : Envelope), s.takesService → env.data = [] →
    (s.node.state ≠ .hold → exec (.resume env) s = .next (s.answered .resume env (.only .state)))
    ∧ (s.node.state = .hold → s.node.desync = true →
        exec (.resume env) s = .next (s.answered .resume env (.notReady .desync)))
    ∧ (s.node.state = .hold → s.node.desync = false → s.tracker.dir ≠ .stopped →
        exec (.resume env) s = .next (s.answered .resume env (.notReady .shaft)))
    ∧ (∀ cur, s.node.state = .hold → s.node.desync = false → s.tracker.dir = .stopped → s.node.windowsOk = true →
        s.queue.current = some cur →
        ∃ (t : State) (want : BarIx → Nat), exec (.resume env) s = .next t
          ∧ t = { s.answered .resume env (.only .started) with node := t.node, bars := t.bars }
          ∧ (∀ (n : BarIx) (u o : Nat), s.bars[n].mode = .motion →
              s.node.edgeAngle s.bars[n].activeTrim .underlapStart = some u →
              s.node.edgeAngle s.bars[n].activeTrim .overlapStart = some o →
              want n = (s.classOf s.bars[n]).spn *
                (if s.tracker.angle < u then
                  (match s.queue.history.getLast? with
                    | some old => old.plans[n].trail
                    | none => cur.plans[n].lead)
                 else if s.tracker.angle < o then cur.plans[n].lead else cur.plans[n].trail))
          ∧ (∀ n : BarIx, s.bars[n].mode ≠ .motion → t.bars[n] = s.bars[n])
          ∧ (∀ n : BarIx, s.bars[n].mode = .motion → s.bars[n].motion = .still → want n = s.bars[n].pos →
              t.bars[n] = s.bars[n])
          ∧ (∀ (n : BarIx) (m : Move), s.bars[n].mode = .motion → s.bars[n].motion = .moving m →
              t.bars[n] = { s.bars[n] with next := some (want n) })
          ∧ (∀ (n : BarIx) (ramp : List Nat), s.bars[n].mode = .motion → s.bars[n].motion = .still →
              want n ≠ s.bars[n].pos → s.rampOf s.bars[n] = some ramp →
              ∃ m, t.bars[n].motion = .moving m ∧ t.bars[n].target = want n ∧ m.up = decide (s.bars[n].pos < want n)
                ∧ m.ramp = ramp ∧ m.emitted = 1
                ∧ m.steps = (if want n ≤ s.bars[n].pos then s.bars[n].pos - want n else want n - s.bars[n].pos))
          ∧ ((∀ n : BarIx, s.bars[n].mode = .motion → s.bars[n].motion = .still ∧ want n = s.bars[n].pos) →
              t.node = { s.node with state := .running, stopReq := false, catchup := noTargets })
          ∧ ((∃ n : BarIx, s.bars[n].mode = .motion ∧ ¬(s.bars[n].motion = .still ∧ want n = s.bars[n].pos)) →
              t.node.state = .catchup ∧ t.node.stopReq = true ∧ t.node.desync = false
              ∧ ∀ n : BarIx, t.node.catchup[n] = if s.bars[n].mode = .motion then some (want n) else none))

/-- JOG and REFERENCE (R153 to R159): a JOG bar that is STILL with a committed ramp starts a move of the step count, for a
referenced bar towards a target kept within its travel; a JOG bar that is STILL in a VALID class starts a search at the
ramp's first period, by the sampled home input in the back-off or the seek leg. The refusals come in their order: a bar number
above 15 or a step count outside -4096..4095 RANGE; another mode STATE; a MOVING or SEARCHING bar BUSY; for JOG a class
without a committed ramp, for REFERENCE a class that is not VALID, STATE (R153, R157). -/
def Obligations.SetupMotionTaken : Prop :=
  ∀ (s : State) (env : Envelope) (index : Byte), s.takesService → env.data = [] →
    (∀ v : Word, 16 ≤ index.toNat ∨ v.toInt < -4096 ∨ 4095 < v.toInt →
      exec (.jog env index v) s = .next (s.answered (.jog index v) env (.only .range)))
    ∧ (∀ homes : BitVec 16, 16 ≤ index.toNat → exec (.reference env index homes) s
        = .next ({ s with homes := homes }.answered (.reference index) env (.only .range)))
    ∧ ∀ n : BarIx, index.toNat = n.val →
      let b := s.bars[n]
      (∀ (v : Word) (ramp : List Nat), -4096 ≤ v.toInt → v.toInt ≤ 4095 → b.mode = .jog → b.motion = .still →
        s.rampOf b = some ramp →
        (v = 0 → exec (.jog env index v) s = .next (s.answered (.jog index v) env (.only .done)))
        ∧ (v ≠ 0 → b.referenced = false →
          exec (.jog env index v) s = .next ((s.answered (.jog index v) env (.only .started)).setBar n { b with
            dirHigh := decide (0 < v.toInt)
            target := 0
            step := true
            pulseLeft := 10
            motion := .moving { up := decide (0 < v.toInt), steps := v.toInt.natAbs, emitted := 1, ramp := ramp,
                                left := periodAfter ramp v.toInt.natAbs 1 } }))
        ∧ (v ≠ 0 → b.referenced = true →
          let top : Int := b.limit * (s.classOf b).spn
          let wanted : Int := b.pos + v.toInt
          let target : Int := if wanted < 0 then 0 else if top < wanted then top else wanted
          let result : Result := if target = wanted then .started else .clamped
          (target = b.pos → exec (.jog env index v) s = .next (s.answered (.jog index v) env (.only result)))
          ∧ (target ≠ b.pos →
            exec (.jog env index v) s = .next ((s.answered (.jog index v) env (.only result)).setBar n { b with
              dirHigh := decide ((b.pos : Int) < target)
              target := target.toNat
              step := true
              pulseLeft := 10
              pos := if (b.pos : Int) < target then b.pos + 1 else b.pos - 1
              motion := .moving { up := decide ((b.pos : Int) < target), steps := (target - b.pos).natAbs, emitted := 1,
                                  ramp := ramp, left := periodAfter ramp (target - b.pos).natAbs 1 } }))))
      ∧ (∀ v : Word, -4096 ≤ v.toInt → v.toInt ≤ 4095 → b.mode ≠ .jog →
          exec (.jog env index v) s = .next (s.answered (.jog index v) env (.only .state)))
      ∧ (∀ v : Word, -4096 ≤ v.toInt → v.toInt ≤ 4095 → b.mode = .jog → b.motion ≠ .still →
          exec (.jog env index v) s = .next (s.answered (.jog index v) env (.only .busy)))
      ∧ (∀ v : Word, -4096 ≤ v.toInt → v.toInt ≤ 4095 → b.mode = .jog → b.motion = .still → s.rampOf b = none →
          exec (.jog env index v) s = .next (s.answered (.jog index v) env (.only .state)))
      ∧ (∀ (homes : BitVec 16) (ramp : List Nat), b.mode = .jog → b.motion = .still → (s.classOf b).state = .valid →
        s.rampOf b = some ramp →
        let active : Bool := homes.getLsbD n.val == (b.homePol == .activeHigh)
        exec (.reference env index homes) s
          = .next (({ s with homes := homes }.answered (.reference index) env (.only .started)).setBar n { b with
              dirHigh := active
              step := true
              pulseLeft := 10
              motion := .searching { leg := if active then .backOff else .seek, pulses := 1, period := ramp.getD 0 0,
                                     homePos := b.homePos, polarity := b.homePol, left := ramp.getD 0 0 } }))
      ∧ (∀ homes : BitVec 16, b.mode ≠ .jog → exec (.reference env index homes) s
          = .next ({ s with homes := homes }.answered (.reference index) env (.only .state)))
      ∧ (∀ homes : BitVec 16, b.mode = .jog → b.motion ≠ .still → exec (.reference env index homes) s
          = .next ({ s with homes := homes }.answered (.reference index) env (.only .busy)))
      ∧ (∀ homes : BitVec 16, b.mode = .jog → b.motion = .still → (s.classOf b).state ≠ .valid →
          exec (.reference env index homes) s
            = .next ({ s with homes := homes }.answered (.reference index) env (.only .state)))

/-- GET_STATUS, GET_FAULTS and CLEAR_FAULT (R168, R169, R182, R187, R188): the reports carry the words of the layouts of R187
and R188, here spelled out, with 24-bit values in two words and absent subjects as 0, and change nothing; the ring is UP by
the request's own frame (R183); a wrong count, section, bar or target is answered RANGE; a clear empties the record it names,
and no other. -/
def Obligations.ReportsAndClears : Prop :=
  ∀ (s : State) (env : Envelope), s.takesService →
    let w := BitVec.ofNat 16
    let bit := fun (b : Bool) (k : Nat) => if b = true then 2 ^ k else 0
    let tagOr0 := fun t : Option CourseRecord => (t.map CourseRecord.tag).getD 0
    let q := s.queue
    let nodeState := match s.node.state with | .offline => 0 | .armed => 1 | .running => 2 | .hold => 3 | .catchup => 4
    let dir := match s.tracker.dir with | .stopped => 0 | .forward => 1 | .reverse => 2
    let speed := if s.tracker.tMeas = 16777215 then 0
      else if s.tracker.tMeas = 0 then 65535 else min 65535 (600000000 / s.tracker.tMeas)
    let ceiling := ((q.current.toList ++ q.pending).map CourseRecord.ceiling).foldl min 65535
    let node : List Word :=
      [w ((s.ring.straps.toNat + 1) * 256 + bit true 0 + bit s.node.desync 1 + bit s.node.stopReq 2
          + bit (s.store.state == .ready) 3 + bit s.store.diagMode 4 + bit s.tracker.angleValid 5 + bit s.node.guardEnable 6),
        w (nodeState * 256 + dir * 64 + ((q.history ++ q.current.toList ++ q.pending).filter CourseRecord.corrected).length),
        w s.tracker.angle, w (s.tracker.tMeas / 65536), w (s.tracker.tMeas % 65536), w speed,
        w (s.tracker.timeout * 256 + s.node.margin)]
      ++ (match q.dueCheck with
        | none => [0, 0, 0, 0, 0, 0]
        | some d => [w ((if d.pass = true then 1 else 2) * 256 + d.margin), d.tag, w (d.tMeas / 65536), w (d.tMeas % 65536),
            w (d.tMin / 65536), w (d.tMin % 65536)])
      ++ [w s.node.us, w s.node.ul, w s.node.os, w s.node.ol, w s.expander.rowCountA, w s.expander.rowCountB,
        w (q.history.length * 4096 + q.pending.length * 128 + bit q.current.isSome 2 + bit q.expected.isSome 1
          + bit (!q.pending.isEmpty) 0),
        tagOr0 q.history.head?, tagOr0 q.history.getLast?, tagOr0 q.current, tagOr0 q.pending.head?,
        tagOr0 q.pending.getLast?, q.expected.getD 0, w ceiling]
      ++ (match q.current with | none => [0, 0, 65535] | some r => [w (r.tMin / 65536), w (r.tMin % 65536), w r.ceiling])
    let classes : List Word := (List.finRange 4).flatMap fun c =>
      let k := s.engine.classes[c]
      let mt := match k.table with | none => 0 | some t => t.getD 63 0
      [w ((match k.state with | .invalid => 0 | .computing => 1 | .valid => 2 | .stale => 3) * 2 ^ 14
          + (match k.outcome with | .none => 0 | .done => 1 | .clamped => 2 | .eccFail => 3) * 2 ^ 12),
        w (k.spn * 256 + k.length), w (mt / 65536), w (mt % 65536)]
    let barWords := fun n : BarIx =>
      let b := s.bars[n]
      let edges : Bool := decide (1 ≤ s.node.us ∧ s.node.us + s.node.ul ≤ s.node.os ∧ s.node.os + s.node.ol ≤ 1439)
      let caught := if s.node.state = .catchup then s.node.catchup[n] else none
      let seeks : Bool × Nat := match b.motion with | .searching x => (x.leg == .seek, x.pulses) | _ => (false, 0)
      fun homes : BitVec 16 =>
      ([w ((match b.mode with | .parked => 0 | .jog => 1 | .motion => 2) * 2 ^ 14 + bit b.referenced 13
            + (match b.motion with | .still => 0 | .moving _ => 1 | .searching _ => 2) * 2 ^ 11 + bit b.next.isSome 10
            + bit edges 9 + bit caught.isSome 8 + bit seeks.1 7
            + (match b.homePol with | .activeLow => 0 | .activeHigh => 1) * 2 ^ 6 + bit b.enable 3 + bit b.step 2
            + bit b.dirHigh 1 + bit (homes.getLsbD n.val) 0),
          w b.pos, w b.target, w (b.next.getD 0), w (b.cls.val * 256 + b.lapSet.val), w b.limit,
          BitVec.ofInt 16 b.activeTrim, BitVec.ofInt 16 b.pendingTrim,
          (if edges = true then BitVec.ofInt 16
            (min (max b.activeTrim (1 - (s.node.us : Int))) (1439 - (s.node.os : Int) - (s.node.ol : Int))) else 0),
          w b.homePos, w seeks.2, w (caught.getD 0)] : List Word)
    let current : List Word := match q.current with
      | none => List.replicate 19 0
      | some r => [r.tag, r.row, w ((match r.bank with | .a => 0 | .b => 1) * 2 ^ 15 + bit r.corrected 14 + 2 ^ 13)]
          ++ (List.finRange 16).map fun n =>
            let p := r.plans[n]
            w ((match p.source with | .table => 0 | .override => 1 | .stand => 2 | .excluded => 3) * 2 ^ 14
              + bit p.clamped 13 + (if p.source = .excluded then 0 else p.lead * 64 + p.trail))
    let nodeFault : List Word := match s.faults.node with
      | none => [0, 0, 0]
      | some c => [w ((match c.code with
            | .starved => 1 | .unfit => 2 | .indexSlip => 3 | .indexMissing => 4 | .retraceExhausted => 5
            | .holdCrossing => 6 | .catchupDisturbed => 7 | .ringLost => 8)
          + bit c.repeated 8 + bit c.tag.isSome 9), c.tag.getD 0, w c.angle]
    let capture : List Word := match s.store.capture with
      | none => [0, 0]
      | some c => [w ((match c.kind with | .expansion => 1 | .read => 2 | .commit => 3) * 2 ^ 14
          + bit (c.severity == .uncorrectable) 13 + bit c.repeated 12 + c.addr / 65536 % 2 * 2 ^ 8 + bit c.parity 5
          + c.syndrome.toNat), w c.addr]
    let barFaults : List Word := (List.finRange 16).flatMap fun n => match s.faults.bars[n] with
      | none => [0, 0]
      | some c => [w ((match c.code with | .guard => 1 | .late => 2 | .limit => 3 | .noHome => 4) * 2 ^ 13
          + bit c.repeated 12 + bit c.tag.isSome 11 + c.angle), c.tag.getD 0]
    (∀ (part bar : Byte) (homes : BitVec 16),
      let seen := { s with homes := homes }
      let reported := fun ws : List Word => exec (.getStatus env part bar homes) s
        = .next (seen.answered (.getStatus part bar) env { result := .done, data := some ws })
      (part = 0 → env.data.length = 32 → ∃ governing : List Word, reported (node ++ governing)
        ∧ (q.pending = [] → governing = [0, 0])
        ∧ (∀ before r after, q.pending = before ++ r :: after → (∀ x ∈ before, r.ceiling < x.ceiling) →
            (∀ x ∈ after, r.ceiling ≤ x.ceiling) → governing = [r.tag, w r.ceiling]))
      ∧ (part = 1 → env.data.length = 16 → reported classes)
      ∧ (∀ n : BarIx, part = 2 → bar.toNat = n.val → env.data.length = 12 → reported (barWords n homes))
      ∧ (part = 3 → env.data.length = 19 → reported current)
      ∧ (4 ≤ part.toNat ∨ (part = 2 ∧ 16 ≤ bar.toNat)
          ∨ env.data.length ≠ (if part = 0 then 32 else if part = 1 then 16 else if part = 2 then 12 else 19) →
        exec (.getStatus env part bar homes) s = .next (seen.answered (.getStatus part bar) env (.only .range))))
    ∧ (env.data.length = 6 → exec (.getFaults env) s = .next (s.answered .getFaults env
        { result := .done, data := some (nodeFault ++ capture ++ [w s.store.corrected]) }))
    ∧ (env.data.length = 32 →
        exec (.getFaults env) s = .next (s.answered .getFaults env { result := .done, data := some barFaults }))
    ∧ (env.data.length ≠ 6 → env.data.length ≠ 32 →
        exec (.getFaults env) s = .next (s.answered .getFaults env (.only .range)))
    ∧ (∀ target bar : Byte, env.data = [] →
      (target = 0 → exec (.clearFault env target bar) s = .next { s.answered (.clearFault target bar) env (.only .done) with
          faults := { s.faults with node := none } })
      ∧ (∀ n : BarIx, target = 1 → bar.toNat = n.val →
        exec (.clearFault env target bar) s = .next { s.answered (.clearFault target bar) env (.only .done) with
          faults := { s.faults with bars := s.faults.bars.set n none } })
      ∧ (target = 2 → exec (.clearFault env target bar) s = .next { s.answered (.clearFault target bar) env (.only .done) with
          store := { s.store with capture := none, corrected := 0 } })
      ∧ (target = 3 → ∃ t, exec (.clearFault env target bar) s = .next t
        ∧ t = { s.answered (.clearFault target bar) env (.only .done) with
          faults := { node := none, bars := t.faults.bars }, store := { s.store with capture := none, corrected := 0 } }
        ∧ ∀ n : BarIx, t.faults.bars[n] = none)
      ∧ (4 ≤ target.toNat ∨ (target = 1 ∧ 16 ≤ bar.toNat) →
        exec (.clearFault env target bar) s = .next (s.answered (.clearFault target bar) env (.only .range))))

/-- LOAD and READ (R32, R33, R35): a count outside 1..32, a data count that differs from it, or a last address above 66,687
is refused RANGE; a store being cleared, or for LOAD the ramp region of a COMPUTING class, BUSY; otherwise the LOAD's words
are staged with rising addresses and answered DONE, its first write presented to the arbiter; and the READ's reads begin, the
first presented, its frame held until the last of them (R23). -/
def Obligations.LoadAndReadTaken : Prop :=
  ∀ (s : State) (env : Envelope) (start : BitVec 24) (count : Byte), s.takesService →
    let badRange := count.toNat < 1 ∨ 32 < count.toNat ∨ env.data.length ≠ count.toNat ∨ 66687 < start.toNat + count.toNat - 1
    let meets := ∃ c : ClassIx, s.engine.classes[c].state = .computing
      ∧ ∃ k, k < count.toNat ∧ 66560 + 32 * c.val ≤ start.toNat + k ∧ start.toNat + k < 66560 + 32 * c.val + 32
    (badRange → exec (.load env start count) s = .next (s.answered (.load start count) env (.only .range))
        ∧ exec (.read env start count) s = .next (s.answered (.read start count) env (.only .range)))
    ∧ (¬ badRange → s.store.state = .clearing →
        exec (.load env start count) s = .next (s.answered (.load start count) env (.only .busy))
        ∧ exec (.read env start count) s = .next (s.answered (.read start count) env (.only .busy)))
    ∧ (¬ badRange → s.store.state = .ready → meets →
        exec (.load env start count) s = .next (s.answered (.load start count) env (.only .busy)))
    ∧ (¬ badRange → s.store.state = .ready → ¬ meets →
        ∃ t, exec (.load env start count) s = .next t
          ∧ t = { s.answered (.load start count) env (.only .done) with store := t.store }
          ∧ t = State.grant { t with store := { s.store with staging := t.store.staging, waitService := true } }
          ∧ t.store.words = s.store.words ∧ t.store.staging.length = count.toNat
          ∧ (∀ (k : Nat) (d : Word), env.data[k]? = some d → t.store.staging[k]? = some (start.toNat + k, d)))
    ∧ (¬ badRange → s.store.state = .ready →
        ∃ t, exec (.read env start count) s = .next t
          ∧ t = { s with store := t.store, ring := s.requestEntered (.read start count) env }
          ∧ t = State.grant { t with store := { s.store with read := t.store.read, waitService := true } }
          ∧ t.store.words = s.store.words
          ∧ t.store.read = some { start := start.toNat, count := count.toNat, words := [], firstBad := none,
                                  op := .read start count, env := env, ticket := s.ring.nextTicket, form := .clean })

/-! ### What every step keeps -/

/-- The stop request follows the node state, DESYNC is set in HOLD alone and catch-up targets are held in CATCHUP alone,
in every state that a step reaches from one where it is so (R134, R135, R137, R146). -/
def Obligations.StepKeepsNodeInv : Prop := ∀ s t : State, NodeInv s → step s = .next t → NodeInv t

/-- Every step keeps the tracker's values in the ranges of chapter 1. -/
def Obligations.StepKeepsTrackerInv : Prop := ∀ s t : State, TrackerInv s → step s = .next t → TrackerInv t

/-- Every step keeps the word array in canonical form (the form is the MODEL'S CHOICE, entry 20) and the corrected count at
255 at most (R28). -/
def Obligations.StepKeepsStoreInv : Prop := ∀ s t : State, StoreInv s → step s = .next t → StoreInv t

/-- Every step keeps the history at 8 records and the pending list at 16 at most, the places as the node state requires, the
held tags consecutive, and the next expected tag one above the newest (R74, R75). -/
def Obligations.StepKeepsQueueInv : Prop := ∀ s t : State, QueueInv s → step s = .next t → QueueInv t

/-- Every step keeps each class's parameters and ramp in range, a VALID class in agreement with its table, and at most one
class COMPUTING, the one whose commit is in flight (R56, R59, R63 to R69). -/
def Obligations.StepKeepsEngineInv : Prop := ∀ s t : State, EngineInv s → step s = .next t → EngineInv t

/-- Every step keeps each bar's record: its position and target against its motion and reference, a referenced bar's position
and targets between 0 and its travel limit times its class's steps per needle (R112), and outside OFFLINE every MOTION bar
referenced (R109, R112, R113, R116, R140); the positions of the records held and of the expansion in progress lie within the
travel limits, which the span of R112 rests on (R50, R76, R111). -/
def Obligations.StepKeepsBarsInv : Prop := ∀ s t : State, BarsInv s → step s = .next t → BarsInv t

/-- A guard enable once set stays set through every command but power-on and the pin reset, and through every idle step
(R129). -/
def Obligations.GuardEnableStays : Prop :=
  (∀ (c : Instr) (s t : State), s.node.guardEnable = true → exec c s = .next t →
      (∀ straps a b homes, c ≠ .powerOn straps a b homes) → c ≠ .pinReset → t.node.guardEnable = true)
    ∧ ∀ s t : State, s.pending = [] → step s = .next t → t.node.guardEnable = s.node.guardEnable

end Statements
end

