-- ==== Sys2Proof/Laws/State.lean ====
section
/-!
SUPPORT. What each shared operation leaves of the state's fields, and what it gives the ones it sets: one lemma for each
field and each operation, so that no proof unfolds a record update.
-/

namespace Sys2Proof.Machine

/-! ### The fields an operation leaves -/

@[simp] theorem State.setBar_tracker (s : State) (n : BarIx) (b : Bar) : (s.setBar n b).tracker = s.tracker := rfl
@[simp] theorem State.setBar_store (s : State) (n : BarIx) (b : Bar) : (s.setBar n b).store = s.store := rfl
@[simp] theorem State.setBar_expander (s : State) (n : BarIx) (b : Bar) : (s.setBar n b).expander = s.expander := rfl
@[simp] theorem State.setBar_engine (s : State) (n : BarIx) (b : Bar) : (s.setBar n b).engine = s.engine := rfl
@[simp] theorem State.setBar_queue (s : State) (n : BarIx) (b : Bar) : (s.setBar n b).queue = s.queue := rfl
@[simp] theorem State.setBar_node (s : State) (n : BarIx) (b : Bar) : (s.setBar n b).node = s.node := rfl
@[simp] theorem State.setBar_faults (s : State) (n : BarIx) (b : Bar) : (s.setBar n b).faults = s.faults := rfl
@[simp] theorem State.setBar_ring (s : State) (n : BarIx) (b : Bar) : (s.setBar n b).ring = s.ring := rfl
@[simp] theorem State.setBar_homes (s : State) (n : BarIx) (b : Bar) : (s.setBar n b).homes = s.homes := rfl
@[simp] theorem State.setBar_inReset (s : State) (n : BarIx) (b : Bar) : (s.setBar n b).inReset = s.inReset := rfl
@[simp] theorem State.setBar_choices (s : State) (n : BarIx) (b : Bar) : (s.setBar n b).choices = s.choices := rfl
@[simp] theorem State.setBar_pending (s : State) (n : BarIx) (b : Bar) : (s.setBar n b).pending = s.pending := rfl

@[simp] theorem State.reportNode_tracker (s : State) (code : NodeCode) (tag : Option Word) (angle : Nat) :
    (s.reportNode code tag angle).tracker = s.tracker := rfl
@[simp] theorem State.reportNode_store (s : State) (code : NodeCode) (tag : Option Word) (angle : Nat) :
    (s.reportNode code tag angle).store = s.store := rfl
@[simp] theorem State.reportNode_expander (s : State) (code : NodeCode) (tag : Option Word) (angle : Nat) :
    (s.reportNode code tag angle).expander = s.expander := rfl
@[simp] theorem State.reportNode_engine (s : State) (code : NodeCode) (tag : Option Word) (angle : Nat) :
    (s.reportNode code tag angle).engine = s.engine := rfl
@[simp] theorem State.reportNode_queue (s : State) (code : NodeCode) (tag : Option Word) (angle : Nat) :
    (s.reportNode code tag angle).queue = s.queue := rfl
@[simp] theorem State.reportNode_bars (s : State) (code : NodeCode) (tag : Option Word) (angle : Nat) :
    (s.reportNode code tag angle).bars = s.bars := rfl
@[simp] theorem State.reportNode_node (s : State) (code : NodeCode) (tag : Option Word) (angle : Nat) :
    (s.reportNode code tag angle).node = s.node := rfl
@[simp] theorem State.reportNode_ring (s : State) (code : NodeCode) (tag : Option Word) (angle : Nat) :
    (s.reportNode code tag angle).ring = s.ring := rfl
@[simp] theorem State.reportNode_homes (s : State) (code : NodeCode) (tag : Option Word) (angle : Nat) :
    (s.reportNode code tag angle).homes = s.homes := rfl
@[simp] theorem State.reportNode_inReset (s : State) (code : NodeCode) (tag : Option Word) (angle : Nat) :
    (s.reportNode code tag angle).inReset = s.inReset := rfl
@[simp] theorem State.reportNode_choices (s : State) (code : NodeCode) (tag : Option Word) (angle : Nat) :
    (s.reportNode code tag angle).choices = s.choices := rfl
@[simp] theorem State.reportNode_pending (s : State) (code : NodeCode) (tag : Option Word) (angle : Nat) :
    (s.reportNode code tag angle).pending = s.pending := rfl

@[simp] theorem State.reportBar_tracker (s : State) (n : BarIx) (code : BarCode) (tag : Option Word) (angle : Nat) :
    (s.reportBar n code tag angle).tracker = s.tracker := rfl
@[simp] theorem State.reportBar_store (s : State) (n : BarIx) (code : BarCode) (tag : Option Word) (angle : Nat) :
    (s.reportBar n code tag angle).store = s.store := rfl
@[simp] theorem State.reportBar_expander (s : State) (n : BarIx) (code : BarCode) (tag : Option Word) (angle : Nat) :
    (s.reportBar n code tag angle).expander = s.expander := rfl
@[simp] theorem State.reportBar_engine (s : State) (n : BarIx) (code : BarCode) (tag : Option Word) (angle : Nat) :
    (s.reportBar n code tag angle).engine = s.engine := rfl
@[simp] theorem State.reportBar_queue (s : State) (n : BarIx) (code : BarCode) (tag : Option Word) (angle : Nat) :
    (s.reportBar n code tag angle).queue = s.queue := rfl
@[simp] theorem State.reportBar_bars (s : State) (n : BarIx) (code : BarCode) (tag : Option Word) (angle : Nat) :
    (s.reportBar n code tag angle).bars = s.bars := rfl
@[simp] theorem State.reportBar_node (s : State) (n : BarIx) (code : BarCode) (tag : Option Word) (angle : Nat) :
    (s.reportBar n code tag angle).node = s.node := rfl
@[simp] theorem State.reportBar_ring (s : State) (n : BarIx) (code : BarCode) (tag : Option Word) (angle : Nat) :
    (s.reportBar n code tag angle).ring = s.ring := rfl
@[simp] theorem State.reportBar_homes (s : State) (n : BarIx) (code : BarCode) (tag : Option Word) (angle : Nat) :
    (s.reportBar n code tag angle).homes = s.homes := rfl
@[simp] theorem State.reportBar_inReset (s : State) (n : BarIx) (code : BarCode) (tag : Option Word) (angle : Nat) :
    (s.reportBar n code tag angle).inReset = s.inReset := rfl
@[simp] theorem State.reportBar_choices (s : State) (n : BarIx) (code : BarCode) (tag : Option Word) (angle : Nat) :
    (s.reportBar n code tag angle).choices = s.choices := rfl
@[simp] theorem State.reportBar_pending (s : State) (n : BarIx) (code : BarCode) (tag : Option Word) (angle : Nat) :
    (s.reportBar n code tag angle).pending = s.pending := rfl

@[simp] theorem State.requestHold_tracker (s : State) (d : Bool) : (s.requestHold d).tracker = s.tracker := rfl
@[simp] theorem State.requestHold_store (s : State) (d : Bool) : (s.requestHold d).store = s.store := rfl
@[simp] theorem State.requestHold_expander (s : State) (d : Bool) : (s.requestHold d).expander = s.expander := rfl
@[simp] theorem State.requestHold_engine (s : State) (d : Bool) : (s.requestHold d).engine = s.engine := rfl
@[simp] theorem State.requestHold_queue (s : State) (d : Bool) : (s.requestHold d).queue = s.queue := rfl
@[simp] theorem State.requestHold_bars (s : State) (d : Bool) : (s.requestHold d).bars = s.bars := rfl
@[simp] theorem State.requestHold_faults (s : State) (d : Bool) : (s.requestHold d).faults = s.faults := rfl
@[simp] theorem State.requestHold_ring (s : State) (d : Bool) : (s.requestHold d).ring = s.ring := rfl
@[simp] theorem State.requestHold_homes (s : State) (d : Bool) : (s.requestHold d).homes = s.homes := rfl
@[simp] theorem State.requestHold_inReset (s : State) (d : Bool) : (s.requestHold d).inReset = s.inReset := rfl
@[simp] theorem State.requestHold_choices (s : State) (d : Bool) : (s.requestHold d).choices = s.choices := rfl
@[simp] theorem State.requestHold_pending (s : State) (d : Bool) : (s.requestHold d).pending = s.pending := rfl

@[simp] theorem State.release_tracker (s : State) (ticket : Nat) (cs : List Byte) :
    (s.release ticket cs).tracker = s.tracker := rfl
@[simp] theorem State.release_store (s : State) (ticket : Nat) (cs : List Byte) :
    (s.release ticket cs).store = s.store := rfl
@[simp] theorem State.release_expander (s : State) (ticket : Nat) (cs : List Byte) :
    (s.release ticket cs).expander = s.expander := rfl
@[simp] theorem State.release_engine (s : State) (ticket : Nat) (cs : List Byte) :
    (s.release ticket cs).engine = s.engine := rfl
@[simp] theorem State.release_queue (s : State) (ticket : Nat) (cs : List Byte) :
    (s.release ticket cs).queue = s.queue := rfl
@[simp] theorem State.release_bars (s : State) (ticket : Nat) (cs : List Byte) :
    (s.release ticket cs).bars = s.bars := rfl
@[simp] theorem State.release_node (s : State) (ticket : Nat) (cs : List Byte) :
    (s.release ticket cs).node = s.node := rfl
@[simp] theorem State.release_faults (s : State) (ticket : Nat) (cs : List Byte) :
    (s.release ticket cs).faults = s.faults := rfl
@[simp] theorem State.release_homes (s : State) (ticket : Nat) (cs : List Byte) :
    (s.release ticket cs).homes = s.homes := rfl
@[simp] theorem State.release_inReset (s : State) (ticket : Nat) (cs : List Byte) :
    (s.release ticket cs).inReset = s.inReset := rfl
@[simp] theorem State.release_choices (s : State) (ticket : Nat) (cs : List Byte) :
    (s.release ticket cs).choices = s.choices := rfl
@[simp] theorem State.release_pending (s : State) (ticket : Nat) (cs : List Byte) :
    (s.release ticket cs).pending = s.pending := rfl

@[simp] theorem State.answer_tracker (s : State) (ticket : Nat) (form : ReplyForm)
    (op : ServiceOp) (env : Envelope) (rep : Reply) : (s.answer ticket form op env rep).tracker = s.tracker := rfl
@[simp] theorem State.answer_store (s : State) (ticket : Nat) (form : ReplyForm)
    (op : ServiceOp) (env : Envelope) (rep : Reply) : (s.answer ticket form op env rep).store = s.store := rfl
@[simp] theorem State.answer_expander (s : State) (ticket : Nat) (form : ReplyForm)
    (op : ServiceOp) (env : Envelope) (rep : Reply) : (s.answer ticket form op env rep).expander = s.expander := rfl
@[simp] theorem State.answer_engine (s : State) (ticket : Nat) (form : ReplyForm)
    (op : ServiceOp) (env : Envelope) (rep : Reply) : (s.answer ticket form op env rep).engine = s.engine := rfl
@[simp] theorem State.answer_queue (s : State) (ticket : Nat) (form : ReplyForm)
    (op : ServiceOp) (env : Envelope) (rep : Reply) : (s.answer ticket form op env rep).queue = s.queue := rfl
@[simp] theorem State.answer_bars (s : State) (ticket : Nat) (form : ReplyForm)
    (op : ServiceOp) (env : Envelope) (rep : Reply) : (s.answer ticket form op env rep).bars = s.bars := rfl
@[simp] theorem State.answer_node (s : State) (ticket : Nat) (form : ReplyForm)
    (op : ServiceOp) (env : Envelope) (rep : Reply) : (s.answer ticket form op env rep).node = s.node := rfl
@[simp] theorem State.answer_faults (s : State) (ticket : Nat) (form : ReplyForm)
    (op : ServiceOp) (env : Envelope) (rep : Reply) : (s.answer ticket form op env rep).faults = s.faults := rfl
@[simp] theorem State.answer_homes (s : State) (ticket : Nat) (form : ReplyForm)
    (op : ServiceOp) (env : Envelope) (rep : Reply) : (s.answer ticket form op env rep).homes = s.homes := rfl
@[simp] theorem State.answer_inReset (s : State) (ticket : Nat) (form : ReplyForm)
    (op : ServiceOp) (env : Envelope) (rep : Reply) : (s.answer ticket form op env rep).inReset = s.inReset := rfl
@[simp] theorem State.answer_choices (s : State) (ticket : Nat) (form : ReplyForm)
    (op : ServiceOp) (env : Envelope) (rep : Reply) : (s.answer ticket form op env rep).choices = s.choices := rfl
@[simp] theorem State.answer_pending (s : State) (ticket : Nat) (form : ReplyForm)
    (op : ServiceOp) (env : Envelope) (rep : Reply) : (s.answer ticket form op env rep).pending = s.pending := rfl

@[simp] theorem State.answerCourse_tracker (s : State) (ticket : Nat) (f : CourseFrame) (v : Verdict) :
    (s.answerCourse ticket f v).tracker = s.tracker := rfl
@[simp] theorem State.answerCourse_store (s : State) (ticket : Nat) (f : CourseFrame) (v : Verdict) :
    (s.answerCourse ticket f v).store = s.store := rfl
@[simp] theorem State.answerCourse_expander (s : State) (ticket : Nat) (f : CourseFrame) (v : Verdict) :
    (s.answerCourse ticket f v).expander = s.expander := rfl
@[simp] theorem State.answerCourse_engine (s : State) (ticket : Nat) (f : CourseFrame) (v : Verdict) :
    (s.answerCourse ticket f v).engine = s.engine := rfl
@[simp] theorem State.answerCourse_queue (s : State) (ticket : Nat) (f : CourseFrame) (v : Verdict) :
    (s.answerCourse ticket f v).queue = s.queue := rfl
@[simp] theorem State.answerCourse_bars (s : State) (ticket : Nat) (f : CourseFrame) (v : Verdict) :
    (s.answerCourse ticket f v).bars = s.bars := rfl
@[simp] theorem State.answerCourse_node (s : State) (ticket : Nat) (f : CourseFrame) (v : Verdict) :
    (s.answerCourse ticket f v).node = s.node := rfl
@[simp] theorem State.answerCourse_faults (s : State) (ticket : Nat) (f : CourseFrame) (v : Verdict) :
    (s.answerCourse ticket f v).faults = s.faults := rfl
@[simp] theorem State.answerCourse_homes (s : State) (ticket : Nat) (f : CourseFrame) (v : Verdict) :
    (s.answerCourse ticket f v).homes = s.homes := rfl
@[simp] theorem State.answerCourse_inReset (s : State) (ticket : Nat) (f : CourseFrame) (v : Verdict) :
    (s.answerCourse ticket f v).inReset = s.inReset := rfl
@[simp] theorem State.answerCourse_choices (s : State) (ticket : Nat) (f : CourseFrame) (v : Verdict) :
    (s.answerCourse ticket f v).choices = s.choices := rfl
@[simp] theorem State.answerCourse_pending (s : State) (ticket : Nat) (f : CourseFrame) (v : Verdict) :
    (s.answerCourse ticket f v).pending = s.pending := rfl

@[simp] theorem State.enterFrame_tracker (s : State) (cs : List Byte) : (s.enterFrame cs).tracker = s.tracker := rfl
@[simp] theorem State.enterFrame_store (s : State) (cs : List Byte) : (s.enterFrame cs).store = s.store := rfl
@[simp] theorem State.enterFrame_expander (s : State) (cs : List Byte) : (s.enterFrame cs).expander = s.expander := rfl
@[simp] theorem State.enterFrame_engine (s : State) (cs : List Byte) : (s.enterFrame cs).engine = s.engine := rfl
@[simp] theorem State.enterFrame_queue (s : State) (cs : List Byte) : (s.enterFrame cs).queue = s.queue := rfl
@[simp] theorem State.enterFrame_bars (s : State) (cs : List Byte) : (s.enterFrame cs).bars = s.bars := rfl
@[simp] theorem State.enterFrame_node (s : State) (cs : List Byte) : (s.enterFrame cs).node = s.node := rfl
@[simp] theorem State.enterFrame_faults (s : State) (cs : List Byte) : (s.enterFrame cs).faults = s.faults := rfl
@[simp] theorem State.enterFrame_homes (s : State) (cs : List Byte) : (s.enterFrame cs).homes = s.homes := rfl
@[simp] theorem State.enterFrame_inReset (s : State) (cs : List Byte) : (s.enterFrame cs).inReset = s.inReset := rfl
@[simp] theorem State.enterFrame_choices (s : State) (cs : List Byte) : (s.enterFrame cs).choices = s.choices := rfl
@[simp] theorem State.enterFrame_pending (s : State) (cs : List Byte) : (s.enterFrame cs).pending = s.pending := rfl

@[simp] theorem State.adoptLevels_store (s : State) (a b : Bool) : (s.adoptLevels a b).store = s.store := rfl
@[simp] theorem State.adoptLevels_expander (s : State) (a b : Bool) : (s.adoptLevels a b).expander = s.expander := rfl
@[simp] theorem State.adoptLevels_engine (s : State) (a b : Bool) : (s.adoptLevels a b).engine = s.engine := rfl
@[simp] theorem State.adoptLevels_queue (s : State) (a b : Bool) : (s.adoptLevels a b).queue = s.queue := rfl
@[simp] theorem State.adoptLevels_bars (s : State) (a b : Bool) : (s.adoptLevels a b).bars = s.bars := rfl
@[simp] theorem State.adoptLevels_node (s : State) (a b : Bool) : (s.adoptLevels a b).node = s.node := rfl
@[simp] theorem State.adoptLevels_faults (s : State) (a b : Bool) : (s.adoptLevels a b).faults = s.faults := rfl
@[simp] theorem State.adoptLevels_ring (s : State) (a b : Bool) : (s.adoptLevels a b).ring = s.ring := rfl
@[simp] theorem State.adoptLevels_homes (s : State) (a b : Bool) : (s.adoptLevels a b).homes = s.homes := rfl
@[simp] theorem State.adoptLevels_inReset (s : State) (a b : Bool) : (s.adoptLevels a b).inReset = s.inReset := rfl
@[simp] theorem State.adoptLevels_choices (s : State) (a b : Bool) : (s.adoptLevels a b).choices = s.choices := rfl
@[simp] theorem State.adoptLevels_pending (s : State) (a b : Bool) : (s.adoptLevels a b).pending = s.pending := rfl

@[simp] theorem State.disturbed_tracker (s : State) (angle : Nat) : (s.disturbed angle).tracker = s.tracker := rfl
@[simp] theorem State.disturbed_store (s : State) (angle : Nat) : (s.disturbed angle).store = s.store := rfl
@[simp] theorem State.disturbed_expander (s : State) (angle : Nat) : (s.disturbed angle).expander = s.expander := rfl
@[simp] theorem State.disturbed_engine (s : State) (angle : Nat) : (s.disturbed angle).engine = s.engine := rfl
@[simp] theorem State.disturbed_queue (s : State) (angle : Nat) : (s.disturbed angle).queue = s.queue := rfl
@[simp] theorem State.disturbed_bars (s : State) (angle : Nat) : (s.disturbed angle).bars = s.bars := rfl
@[simp] theorem State.disturbed_ring (s : State) (angle : Nat) : (s.disturbed angle).ring = s.ring := rfl
@[simp] theorem State.disturbed_homes (s : State) (angle : Nat) : (s.disturbed angle).homes = s.homes := rfl
@[simp] theorem State.disturbed_inReset (s : State) (angle : Nat) : (s.disturbed angle).inReset = s.inReset := rfl
@[simp] theorem State.disturbed_choices (s : State) (angle : Nat) : (s.disturbed angle).choices = s.choices := rfl
@[simp] theorem State.disturbed_pending (s : State) (angle : Nat) : (s.disturbed angle).pending = s.pending := rfl

@[simp] theorem State.indexSlip_tracker (s : State) (v : Nat) : (s.indexSlip v).tracker = s.tracker := rfl
@[simp] theorem State.indexSlip_store (s : State) (v : Nat) : (s.indexSlip v).store = s.store := rfl
@[simp] theorem State.indexSlip_expander (s : State) (v : Nat) : (s.indexSlip v).expander = s.expander := rfl
@[simp] theorem State.indexSlip_engine (s : State) (v : Nat) : (s.indexSlip v).engine = s.engine := rfl
@[simp] theorem State.indexSlip_queue (s : State) (v : Nat) : (s.indexSlip v).queue = s.queue := rfl
@[simp] theorem State.indexSlip_bars (s : State) (v : Nat) : (s.indexSlip v).bars = s.bars := rfl
@[simp] theorem State.indexSlip_ring (s : State) (v : Nat) : (s.indexSlip v).ring = s.ring := rfl
@[simp] theorem State.indexSlip_homes (s : State) (v : Nat) : (s.indexSlip v).homes = s.homes := rfl
@[simp] theorem State.indexSlip_inReset (s : State) (v : Nat) : (s.indexSlip v).inReset = s.inReset := rfl
@[simp] theorem State.indexSlip_choices (s : State) (v : Nat) : (s.indexSlip v).choices = s.choices := rfl
@[simp] theorem State.indexSlip_pending (s : State) (v : Nat) : (s.indexSlip v).pending = s.pending := rfl

@[simp] theorem State.ringLost_tracker (s : State) : (s.ringLost).tracker = s.tracker := rfl
@[simp] theorem State.ringLost_store (s : State) : (s.ringLost).store = s.store := rfl
@[simp] theorem State.ringLost_expander (s : State) : (s.ringLost).expander = s.expander := rfl
@[simp] theorem State.ringLost_engine (s : State) : (s.ringLost).engine = s.engine := rfl
@[simp] theorem State.ringLost_queue (s : State) : (s.ringLost).queue = s.queue := rfl
@[simp] theorem State.ringLost_bars (s : State) : (s.ringLost).bars = s.bars := rfl
@[simp] theorem State.ringLost_node (s : State) : (s.ringLost).node = s.node := rfl
@[simp] theorem State.ringLost_homes (s : State) : (s.ringLost).homes = s.homes := rfl
@[simp] theorem State.ringLost_inReset (s : State) : (s.ringLost).inReset = s.inReset := rfl
@[simp] theorem State.ringLost_choices (s : State) : (s.ringLost).choices = s.choices := rfl
@[simp] theorem State.ringLost_pending (s : State) : (s.ringLost).pending = s.pending := rfl

@[simp] theorem State.armed_tracker (s : State) (tag : Word) : (s.armed tag).tracker = s.tracker := rfl
@[simp] theorem State.armed_store (s : State) (tag : Word) : (s.armed tag).store = s.store := rfl
@[simp] theorem State.armed_expander (s : State) (tag : Word) : (s.armed tag).expander = s.expander := rfl
@[simp] theorem State.armed_engine (s : State) (tag : Word) : (s.armed tag).engine = s.engine := rfl
@[simp] theorem State.armed_faults (s : State) (tag : Word) : (s.armed tag).faults = s.faults := rfl
@[simp] theorem State.armed_ring (s : State) (tag : Word) : (s.armed tag).ring = s.ring := rfl
@[simp] theorem State.armed_homes (s : State) (tag : Word) : (s.armed tag).homes = s.homes := rfl
@[simp] theorem State.armed_inReset (s : State) (tag : Word) : (s.armed tag).inReset = s.inReset := rfl
@[simp] theorem State.armed_choices (s : State) (tag : Word) : (s.armed tag).choices = s.choices := rfl
@[simp] theorem State.armed_pending (s : State) (tag : Word) : (s.armed tag).pending = s.pending := rfl

@[simp] theorem State.restarted_tracker (s : State) : (s.restarted).tracker = s.tracker := rfl
@[simp] theorem State.restarted_expander (s : State) : (s.restarted).expander = s.expander := rfl
@[simp] theorem State.restarted_engine (s : State) : (s.restarted).engine = s.engine := rfl
@[simp] theorem State.restarted_ring (s : State) : (s.restarted).ring = s.ring := rfl
@[simp] theorem State.restarted_homes (s : State) : (s.restarted).homes = s.homes := rfl
@[simp] theorem State.restarted_inReset (s : State) : (s.restarted).inReset = s.inReset := rfl
@[simp] theorem State.restarted_choices (s : State) : (s.restarted).choices = s.choices := rfl
@[simp] theorem State.restarted_pending (s : State) : (s.restarted).pending = s.pending := rfl

/-! ### The fields an operation sets -/

@[simp] theorem State.setBar_bars (s : State) (n : BarIx) (b : Bar) : (s.setBar n b).bars = s.bars.set n b := rfl
@[simp] theorem State.requestHold_node (s : State) (d : Bool) : (s.requestHold d).node = s.node.requestHold d := rfl
@[simp] theorem State.reportNode_faults_node (s : State) (code : NodeCode) (tag : Option Word) (angle : Nat) :
    (s.reportNode code tag angle).faults.node = reportTo s.faults.node code tag angle := rfl
@[simp] theorem State.reportNode_faults_bars (s : State) (code : NodeCode) (tag : Option Word) (angle : Nat) :
    (s.reportNode code tag angle).faults.bars = s.faults.bars := rfl
@[simp] theorem State.reportBar_faults_node (s : State) (n : BarIx) (code : BarCode) (tag : Option Word) (angle : Nat) :
    (s.reportBar n code tag angle).faults.node = s.faults.node := rfl
@[simp] theorem State.reportBar_faults_bars (s : State) (n : BarIx) (code : BarCode) (tag : Option Word) (angle : Nat) :
    (s.reportBar n code tag angle).faults.bars = s.faults.bars.set n (reportTo s.faults.bars[n] code tag angle) := rfl
@[simp] theorem State.release_ring (s : State) (ticket : Nat) (cs : List Byte) :
    (s.release ticket cs).ring = s.ring.release ticket cs := rfl
@[simp] theorem State.enterFrame_ring (s : State) (cs : List Byte) : (s.enterFrame cs).ring = s.ring.enter cs := rfl
@[simp] theorem State.answer_ring (s : State) (ticket : Nat) (form : ReplyForm) (op : ServiceOp) (env : Envelope)
    (rep : Reply) :
    (s.answer ticket form op env rep).ring = s.ring.release ticket (rep.chars form s.ring.address op env) :=
  rfl
@[simp] theorem State.answerCourse_ring (s : State) (ticket : Nat) (f : CourseFrame) (v : Verdict) :
    (s.answerCourse ticket f v).ring
      = s.ring.release ticket (cleanFrameOf (courseBody (frameWithSlot f s.ring.straps (s.slot v)))) := rfl
@[simp] theorem State.currentTag_requestHold (s : State) (d : Bool) : (s.requestHold d).currentTag = s.currentTag := rfl

/-! ### The records inside -/

@[simp] theorem Node.enter_state (n : Node) (st : NodeState) : (n.enter st).state = st := rfl
@[simp] theorem Node.enter_stopReq (n : Node) (st : NodeState) : (n.enter st).stopReq = st.asserts := rfl
@[simp] theorem Node.enter_desync (n : Node) (st : NodeState) : (n.enter st).desync = n.desync := rfl
@[simp] theorem Node.enter_catchup (n : Node) (st : NodeState) : (n.enter st).catchup = n.catchup := rfl
@[simp] theorem Node.enter_guardEnable (n : Node) (st : NodeState) : (n.enter st).guardEnable = n.guardEnable := rfl
@[simp] theorem Node.enter_margin (n : Node) (st : NodeState) : (n.enter st).margin = n.margin := rfl

@[simp] theorem Ring.enter_straps (r : Ring) (cs : List Byte) : (r.enter cs).straps = r.straps := rfl
@[simp] theorem Ring.enter_up (r : Ring) (cs : List Byte) : (r.enter cs).up = r.up := rfl
@[simp] theorem Ring.enter_silence (r : Ring) (cs : List Byte) : (r.enter cs).silence = r.silence := rfl
@[simp] theorem Ring.enter_waiting (r : Ring) (cs : List Byte) : (r.enter cs).waiting = r.waiting := rfl
@[simp] theorem Ring.enter_deferred (r : Ring) (cs : List Byte) : (r.enter cs).deferred = r.deferred := rfl
@[simp] theorem Ring.enter_sent (r : Ring) (cs : List Byte) : (r.enter cs).sent = r.sent := rfl
@[simp] theorem Ring.release_straps (r : Ring) (ticket : Nat) (cs : List Byte) :
    (r.release ticket cs).straps = r.straps := rfl
@[simp] theorem Ring.release_up (r : Ring) (ticket : Nat) (cs : List Byte) : (r.release ticket cs).up = r.up := rfl
@[simp] theorem Ring.release_silence (r : Ring) (ticket : Nat) (cs : List Byte) :
    (r.release ticket cs).silence = r.silence := rfl
@[simp] theorem Ring.release_nextTicket (r : Ring) (ticket : Nat) (cs : List Byte) :
    (r.release ticket cs).nextTicket = r.nextTicket := rfl
@[simp] theorem Ring.release_waiting (r : Ring) (ticket : Nat) (cs : List Byte) :
    (r.release ticket cs).waiting = r.waiting := rfl
@[simp] theorem Ring.release_deferred (r : Ring) (ticket : Nat) (cs : List Byte) :
    (r.release ticket cs).deferred = r.deferred := rfl
@[simp] theorem Ring.cleanSeen_straps (r : Ring) : r.cleanSeen.straps = r.straps := rfl
@[simp] theorem Ring.cleanSeen_forwarding (r : Ring) : r.cleanSeen.forwarding = r.forwarding := rfl
@[simp] theorem Ring.cleanSeen_nextTicket (r : Ring) : r.cleanSeen.nextTicket = r.nextTicket := rfl
@[simp] theorem Ring.cleanSeen_waiting (r : Ring) : r.cleanSeen.waiting = r.waiting := rfl
@[simp] theorem Ring.cleanSeen_deferred (r : Ring) : r.cleanSeen.deferred = r.deferred := rfl
@[simp] theorem Ring.cleanSeen_sent (r : Ring) : r.cleanSeen.sent = r.sent := rfl
@[simp] theorem Ring.startSeen_straps (r : Ring) : r.startSeen.straps = r.straps := rfl
@[simp] theorem Ring.startSeen_up (r : Ring) : r.startSeen.up = r.up := rfl
@[simp] theorem Ring.startSeen_forwarding (r : Ring) : r.startSeen.forwarding = r.forwarding := rfl
@[simp] theorem Ring.startSeen_nextTicket (r : Ring) : r.startSeen.nextTicket = r.nextTicket := rfl
@[simp] theorem Ring.startSeen_waiting (r : Ring) : r.startSeen.waiting = r.waiting := rfl
@[simp] theorem Ring.startSeen_deferred (r : Ring) : r.startSeen.deferred = r.deferred := rfl
@[simp] theorem Ring.startSeen_sent (r : Ring) : r.startSeen.sent = r.sent := rfl
@[simp] theorem Bar.raiseStep_mode (b : Bar) : b.raiseStep.mode = b.mode := rfl
@[simp] theorem Bar.raiseStep_referenced (b : Bar) : b.raiseStep.referenced = b.referenced := rfl
@[simp] theorem Bar.raiseStep_pos (b : Bar) : b.raiseStep.pos = b.pos := rfl
@[simp] theorem Bar.raiseStep_motion (b : Bar) : b.raiseStep.motion = b.motion := rfl
@[simp] theorem Bar.raiseStep_target (b : Bar) : b.raiseStep.target = b.target := rfl
@[simp] theorem Bar.raiseStep_next (b : Bar) : b.raiseStep.next = b.next := rfl
@[simp] theorem Bar.raiseStep_cls (b : Bar) : b.raiseStep.cls = b.cls := rfl
@[simp] theorem Bar.raiseStep_lapSet (b : Bar) : b.raiseStep.lapSet = b.lapSet := rfl
@[simp] theorem Bar.raiseStep_limit (b : Bar) : b.raiseStep.limit = b.limit := rfl
@[simp] theorem Bar.raiseStep_activeTrim (b : Bar) : b.raiseStep.activeTrim = b.activeTrim := rfl
@[simp] theorem Bar.raiseStep_pendingTrim (b : Bar) : b.raiseStep.pendingTrim = b.pendingTrim := rfl
@[simp] theorem Bar.raiseStep_homePos (b : Bar) : b.raiseStep.homePos = b.homePos := rfl
@[simp] theorem Bar.raiseStep_homePol (b : Bar) : b.raiseStep.homePol = b.homePol := rfl
@[simp] theorem Bar.raiseStep_enable (b : Bar) : b.raiseStep.enable = b.enable := rfl
@[simp] theorem Bar.raiseStep_dirHigh (b : Bar) : b.raiseStep.dirHigh = b.dirHigh := rfl
@[simp] theorem Bar.movePulse_mode (b : Bar) (m : Move) : (b.movePulse m).mode = b.mode := rfl
@[simp] theorem Bar.movePulse_referenced (b : Bar) (m : Move) : (b.movePulse m).referenced = b.referenced := rfl
@[simp] theorem Bar.movePulse_target (b : Bar) (m : Move) : (b.movePulse m).target = b.target := rfl
@[simp] theorem Bar.movePulse_next (b : Bar) (m : Move) : (b.movePulse m).next = b.next := rfl
@[simp] theorem Bar.movePulse_cls (b : Bar) (m : Move) : (b.movePulse m).cls = b.cls := rfl
@[simp] theorem Bar.movePulse_lapSet (b : Bar) (m : Move) : (b.movePulse m).lapSet = b.lapSet := rfl
@[simp] theorem Bar.movePulse_limit (b : Bar) (m : Move) : (b.movePulse m).limit = b.limit := rfl
@[simp] theorem Bar.movePulse_activeTrim (b : Bar) (m : Move) : (b.movePulse m).activeTrim = b.activeTrim := rfl
@[simp] theorem Bar.movePulse_pendingTrim (b : Bar) (m : Move) : (b.movePulse m).pendingTrim = b.pendingTrim := rfl
@[simp] theorem Bar.movePulse_homePos (b : Bar) (m : Move) : (b.movePulse m).homePos = b.homePos := rfl
@[simp] theorem Bar.movePulse_homePol (b : Bar) (m : Move) : (b.movePulse m).homePol = b.homePol := rfl
@[simp] theorem Bar.movePulse_enable (b : Bar) (m : Move) : (b.movePulse m).enable = b.enable := rfl
@[simp] theorem Bar.movePulse_dirHigh (b : Bar) (m : Move) : (b.movePulse m).dirHigh = b.dirHigh := rfl
@[simp] theorem Store.setWait_words (st : Store) (c : Client) (w : Bool) :
    (st.setWait c w).words = st.words := by cases c <;> rfl
@[simp] theorem Store.setWait_state (st : Store) (c : Client) (w : Bool) :
    (st.setWait c w).state = st.state := by cases c <;> rfl
@[simp] theorem Store.setWait_clearLeft (st : Store) (c : Client) (w : Bool) :
    (st.setWait c w).clearLeft = st.clearLeft := by cases c <;> rfl
@[simp] theorem Store.setWait_access (st : Store) (c : Client) (w : Bool) :
    (st.setWait c w).access = st.access := by cases c <;> rfl
@[simp] theorem Store.setWait_capture (st : Store) (c : Client) (w : Bool) :
    (st.setWait c w).capture = st.capture := by cases c <;> rfl
@[simp] theorem Store.setWait_corrected (st : Store) (c : Client) (w : Bool) :
    (st.setWait c w).corrected = st.corrected := by cases c <;> rfl
@[simp] theorem Store.setWait_diagMode (st : Store) (c : Client) (w : Bool) :
    (st.setWait c w).diagMode = st.diagMode := by cases c <;> rfl
@[simp] theorem Store.setWait_diagValue (st : Store) (c : Client) (w : Bool) :
    (st.setWait c w).diagValue = st.diagValue := by cases c <;> rfl
@[simp] theorem Store.setWait_staging (st : Store) (c : Client) (w : Bool) :
    (st.setWait c w).staging = st.staging := by cases c <;> rfl
@[simp] theorem Store.setWait_read (st : Store) (c : Client) (w : Bool) :
    (st.setWait c w).read = st.read := by cases c <;> rfl
@[simp] theorem Store.report_words (st : Store) (k : CaptureKind) (a : Nat) (o : ReadOutcome) :
    (st.report k a o).words = st.words := rfl
@[simp] theorem Store.report_state (st : Store) (k : CaptureKind) (a : Nat) (o : ReadOutcome) :
    (st.report k a o).state = st.state := rfl
@[simp] theorem Store.report_clearLeft (st : Store) (k : CaptureKind) (a : Nat) (o : ReadOutcome) :
    (st.report k a o).clearLeft = st.clearLeft := rfl
@[simp] theorem Store.report_access (st : Store) (k : CaptureKind) (a : Nat) (o : ReadOutcome) :
    (st.report k a o).access = st.access := rfl
@[simp] theorem Store.report_waitExpander (st : Store) (k : CaptureKind) (a : Nat) (o : ReadOutcome) :
    (st.report k a o).waitExpander = st.waitExpander := rfl
@[simp] theorem Store.report_waitService (st : Store) (k : CaptureKind) (a : Nat) (o : ReadOutcome) :
    (st.report k a o).waitService = st.waitService := rfl
@[simp] theorem Store.report_waitEngine (st : Store) (k : CaptureKind) (a : Nat) (o : ReadOutcome) :
    (st.report k a o).waitEngine = st.waitEngine := rfl
@[simp] theorem Store.report_diagMode (st : Store) (k : CaptureKind) (a : Nat) (o : ReadOutcome) :
    (st.report k a o).diagMode = st.diagMode := rfl
@[simp] theorem Store.report_diagValue (st : Store) (k : CaptureKind) (a : Nat) (o : ReadOutcome) :
    (st.report k a o).diagValue = st.diagValue := rfl
@[simp] theorem Store.report_staging (st : Store) (k : CaptureKind) (a : Nat) (o : ReadOutcome) :
    (st.report k a o).staging = st.staging := rfl
@[simp] theorem Store.report_read (st : Store) (k : CaptureKind) (a : Nat) (o : ReadOutcome) :
    (st.report k a o).read = st.read := rfl

/-- One bar's record after every bar has been changed by one function. -/
@[simp] theorem mapBars_get (bars : Vector Bar 16) (f : Bar → Bar) (i : Nat) (h : i < 16) :
    (mapBars bars f)[i] = f bars[i] := by
  simp [mapBars]

/-- One bar's record after the trims have been made active (R121). -/
@[simp] theorem activateTrims_get (bars : Vector Bar 16) (i : Nat) (h : i < 16) :
    (activateTrims bars)[i] = { bars[i] with activeTrim := bars[i].pendingTrim } := by
  simp [activateTrims]

/-- A bar read back where it was set. -/
theorem State.setBar_same (s : State) (n : BarIx) (b : Bar) : (s.setBar n b).bars[n] = b := by
  simp

/-- A bar read where another was set. -/
theorem State.setBar_other (s : State) {n k : BarIx} (b : Bar) (h : k ≠ n) : (s.setBar n b).bars[k] = s.bars[k] := by
  have : n.val ≠ k.val := fun e => h (Fin.ext e.symm)
  simp [this]

end Sys2Proof.Machine
end

