-- ==== Sys2Proof/Laws/Memory.lean ====
section
/-!
SUPPORT. The word array: a write is read back where it was made and leaves every other address, and keeps the canonical form.
-/

namespace Sys2Proof.Machine

@[simp] theorem Memory.read_nil (x : Nat) : Memory.read [] x = unlistedWord := rfl

/-- Nothing is listed below the first address of a canonical list. -/
theorem Memory.read_below {m : Memory} {x : Nat} (h : ∀ e ∈ m, x < e.1) : m.read x = unlistedWord := by
  induction m with
  | nil => rfl
  | cons e rest ih =>
    obtain ⟨a, v⟩ := e
    have h1 : x < a := h (a, v) (by simp)
    have h2 : a ≠ x := by omega
    simp only [Memory.read, if_neg h2]
    exact ih fun e he => h e (by simp [he])

/-- The canonical form of a list with a first entry. -/
theorem Memory.wf_cons {a : Nat} {v : Stored} {rest : Memory} :
    Memory.wf ((a, v) :: rest) = true
      ↔ a < storeSize ∧ v ≠ unlistedWord ∧ (∀ e ∈ rest, a < e.1) ∧ Memory.wf rest = true := by
  simp [Memory.wf, and_assoc]

/-- A write is read back (R20). -/
theorem Memory.read_write_same {m : Memory} (hm : m.wf = true) (x : Nat) (w : Stored) : (m.write x w).read x = w := by
  induction m with
  | nil => by_cases h : w = unlistedWord <;> simp [Memory.write, Memory.read, h]
  | cons e rest ih =>
    obtain ⟨a, v⟩ := e
    obtain ⟨-, -, hlt, hrest⟩ := Memory.wf_cons.mp hm
    simp only [Memory.write]
    by_cases h1 : x < a
    · have hb : Memory.read ((a, v) :: rest) x = unlistedWord :=
        Memory.read_below (by
          intro e he
          rcases List.mem_cons.mp he with rfl | he
          · exact h1
          · exact lt_trans h1 (hlt e he))
      by_cases h2 : w = unlistedWord
      · simp [h1, h2, hb]
      · simp [h1, h2, Memory.read]
    · by_cases h2 : x = a
      · subst h2
        by_cases h3 : w = unlistedWord
        · simp [h3, Memory.read_below hlt]
        · simp [h3, Memory.read]
      · have h3 : a ≠ x := fun e => h2 e.symm
        simp [h1, h2, Memory.read, h3, ih hrest]

/-- A write leaves every other address (R20). -/
theorem Memory.read_write_other (m : Memory) {x y : Nat} (h : y ≠ x) (w : Stored) : (m.write x w).read y = m.read y := by
  induction m with
  | nil => by_cases h2 : w = unlistedWord <;> simp [Memory.write, Memory.read, h2, Ne.symm h]
  | cons e rest ih =>
    obtain ⟨a, v⟩ := e
    simp only [Memory.write]
    by_cases h1 : x < a
    · by_cases h2 : w = unlistedWord <;> simp [h1, h2, Memory.read, Ne.symm h]
    · by_cases h2 : x = a
      · subst h2
        by_cases h3 : w = unlistedWord <;> simp [h3, Memory.read, Ne.symm h]
      · simp [h1, h2, Memory.read, ih]

/-- The addresses listed after a write. -/
theorem Memory.mem_write {m : Memory} {x : Nat} {w : Stored} {e : Nat × Stored} (h : e ∈ m.write x w) :
    e = (x, w) ∨ e ∈ m := by
  induction m with
  | nil =>
    by_cases h2 : w = unlistedWord <;> simp [Memory.write, h2] at h
    exact Or.inl h
  | cons f rest ih =>
    obtain ⟨a, v⟩ := f
    simp only [Memory.write] at h
    split at h
    · split at h
      · exact Or.inr h
      · rcases List.mem_cons.mp h with h | h
        · exact Or.inl h
        · exact Or.inr h
    · split at h
      · split at h
        · exact Or.inr (List.mem_cons_of_mem _ h)
        · rcases List.mem_cons.mp h with h | h
          · exact Or.inl h
          · exact Or.inr (List.mem_cons_of_mem _ h)
      · rcases List.mem_cons.mp h with h | h
        · exact Or.inr (h ▸ List.mem_cons_self)
        · rcases ih h with h | h
          · exact Or.inl h
          · exact Or.inr (List.mem_cons_of_mem _ h)

/-- A write inside the word array keeps the canonical form. -/
theorem Memory.write_wf {m : Memory} (hm : m.wf = true) {x : Nat} (hx : x < storeSize) (w : Stored) :
    (m.write x w).wf = true := by
  induction m with
  | nil => by_cases h : w = unlistedWord <;> simp [Memory.write, Memory.wf, h, hx]
  | cons e rest ih =>
    obtain ⟨a, v⟩ := e
    obtain ⟨ha, hv, hlt, hrest⟩ := Memory.wf_cons.mp hm
    simp only [Memory.write]
    by_cases h1 : x < a
    · by_cases h2 : w = unlistedWord
      · simpa [h1, h2] using hm
      · simp only [h1, h2, if_true, if_false]
        refine Memory.wf_cons.mpr ⟨hx, h2, ?_, hm⟩
        intro e he
        rcases List.mem_cons.mp he with rfl | he
        · exact h1
        · exact lt_trans h1 (hlt e he)
    · by_cases h2 : x = a
      · subst h2
        by_cases h3 : w = unlistedWord
        · simpa [h3] using hrest
        · simp only [lt_irrefl, h3, if_true, if_false]
          exact Memory.wf_cons.mpr ⟨hx, h3, hlt, hrest⟩
      · simp only [h1, h2, if_false]
        refine Memory.wf_cons.mpr ⟨ha, hv, ?_, ih hrest⟩
        intro e he
        rcases Memory.mem_write he with rfl | he
        · show a < x
          omega
        · exact hlt e he

/-- The word array at power-on is in canonical form. -/
theorem Memory.reset_wf : State.reset.store.words.wf = true := rfl

end Sys2Proof.Machine
end

