-- ==== Sys2Proof/Laws/Ops.lean ====
section
/-!
SUPPORT. What the operations with cases leave of the state, and one lemma for each shared operation that says what it does.
-/

namespace Sys2Proof.Machine

/-! ### Fault records (R165) -/

@[simp] theorem reportTo_none {Code : Type} (code : Code) (tag : Option Word) (angle : Nat) :
    reportTo none code tag angle = some ⟨code, tag, angle, false⟩ := rfl
@[simp] theorem reportTo_some {Code : Type} (c : FaultCapture Code) (code : Code) (tag : Option Word) (angle : Nat) :
    reportTo (some c) code tag angle = some { c with repeated := true } := rfl

/-! ### HOLD requests (R135, R137) -/

/-- A hold request acts in RUNNING, HOLD and CATCHUP alone. -/
theorem Node.requestHold_idle {n : Node} (d : Bool) (h : n.state = .offline ∨ n.state = .armed) : n.requestHold d = n := by
  rcases h with h | h <;> simp [Node.requestHold, h]

/-- A hold request taken in RUNNING or CATCHUP. -/
theorem Node.requestHold_takes {n : Node} (d : Bool) (h : n.state = .running ∨ n.state = .catchup) :
    n.requestHold d = { n.enter .hold with desync := n.desync || d, catchup := noTargets } := by
  rcases h with h | h <;> simp [Node.requestHold, h]

/-- A hold request taken in HOLD keeps it. -/
theorem Node.requestHold_stays {n : Node} (d : Bool) (h : n.state = .hold) :
    n.requestHold d = { n with desync := n.desync || d } := by simp [Node.requestHold, h]

/-- The node state after a hold request. -/
theorem Node.requestHold_state (n : Node) (d : Bool) :
    (n.requestHold d).state = (match n.state with
      | .offline => .offline
      | .armed => .armed
      | .running | .hold | .catchup => .hold) := by
  cases h : n.state <;> simp [Node.requestHold, h]

@[simp] theorem Node.requestHold_guardEnable (n : Node) (d : Bool) : (n.requestHold d).guardEnable = n.guardEnable := by
  cases h : n.state <;> simp [Node.requestHold, h, Node.enter]
@[simp] theorem Node.requestHold_us (n : Node) (d : Bool) : (n.requestHold d).us = n.us := by
  cases h : n.state <;> simp [Node.requestHold, h, Node.enter]
@[simp] theorem Node.requestHold_ul (n : Node) (d : Bool) : (n.requestHold d).ul = n.ul := by
  cases h : n.state <;> simp [Node.requestHold, h, Node.enter]
@[simp] theorem Node.requestHold_os (n : Node) (d : Bool) : (n.requestHold d).os = n.os := by
  cases h : n.state <;> simp [Node.requestHold, h, Node.enter]
@[simp] theorem Node.requestHold_ol (n : Node) (d : Bool) : (n.requestHold d).ol = n.ol := by
  cases h : n.state <;> simp [Node.requestHold, h, Node.enter]
@[simp] theorem Node.requestHold_margin (n : Node) (d : Bool) : (n.requestHold d).margin = n.margin := by
  cases h : n.state <;> simp [Node.requestHold, h, Node.enter]

/-! ### The arbiter (R23) -/

/-- A grant changes the access in progress and the request it takes, nothing else. -/
theorem State.grant_cases (s : State) :
    s.grant = s ∨ ∃ c a, s.store.access = none ∧ s.store.state ≠ .clearing ∧ s.candidate = some c ∧ s.nextAccess c = some a
      ∧ s.grant = { s with store := { s.store.setWait c false with access := some a } } := by
  unfold State.grant
  split
  · exact Or.inl rfl
  · rename_i h
    simp only [not_or] at h
    split
    · exact Or.inl rfl
    · rename_i c hc
      have hn : (s.nextAccess c).isSome = true := by
        have := List.find?_some hc
        simp only [Bool.and_eq_true] at this
        exact this.2
      obtain ⟨a, ha⟩ := Option.isSome_iff_exists.mp hn
      refine Or.inr ⟨c, a, ?_, h.2, hc, ha, by rw [ha]⟩
      simpa using h.1

@[simp] theorem State.grant_tracker (s : State) :
    (s.grant).tracker = s.tracker := by
  rcases s.grant_cases with h | ⟨c, a, -, -, -, -, h⟩ <;> rw [h]
@[simp] theorem State.grant_expander (s : State) :
    (s.grant).expander = s.expander := by
  rcases s.grant_cases with h | ⟨c, a, -, -, -, -, h⟩ <;> rw [h]
@[simp] theorem State.grant_engine (s : State) :
    (s.grant).engine = s.engine := by
  rcases s.grant_cases with h | ⟨c, a, -, -, -, -, h⟩ <;> rw [h]
@[simp] theorem State.grant_queue (s : State) :
    (s.grant).queue = s.queue := by
  rcases s.grant_cases with h | ⟨c, a, -, -, -, -, h⟩ <;> rw [h]
@[simp] theorem State.grant_bars (s : State) :
    (s.grant).bars = s.bars := by
  rcases s.grant_cases with h | ⟨c, a, -, -, -, -, h⟩ <;> rw [h]
@[simp] theorem State.grant_node (s : State) :
    (s.grant).node = s.node := by
  rcases s.grant_cases with h | ⟨c, a, -, -, -, -, h⟩ <;> rw [h]
@[simp] theorem State.grant_faults (s : State) :
    (s.grant).faults = s.faults := by
  rcases s.grant_cases with h | ⟨c, a, -, -, -, -, h⟩ <;> rw [h]
@[simp] theorem State.grant_ring (s : State) :
    (s.grant).ring = s.ring := by
  rcases s.grant_cases with h | ⟨c, a, -, -, -, -, h⟩ <;> rw [h]
@[simp] theorem State.grant_homes (s : State) :
    (s.grant).homes = s.homes := by
  rcases s.grant_cases with h | ⟨c, a, -, -, -, -, h⟩ <;> rw [h]
@[simp] theorem State.grant_inReset (s : State) :
    (s.grant).inReset = s.inReset := by
  rcases s.grant_cases with h | ⟨c, a, -, -, -, -, h⟩ <;> rw [h]
@[simp] theorem State.grant_choices (s : State) :
    (s.grant).choices = s.choices := by
  rcases s.grant_cases with h | ⟨c, a, -, -, -, -, h⟩ <;> rw [h]
@[simp] theorem State.grant_pending (s : State) :
    (s.grant).pending = s.pending := by
  rcases s.grant_cases with h | ⟨c, a, -, -, -, -, h⟩ <;> rw [h]
@[simp] theorem State.grant_words (s : State) :
    (s.grant).store.words = s.store.words := by
  rcases s.grant_cases with h | ⟨c, a, -, -, -, -, h⟩ <;> rw [h]; simp
@[simp] theorem State.grant_storeState (s : State) :
    (s.grant).store.state = s.store.state := by
  rcases s.grant_cases with h | ⟨c, a, -, -, -, -, h⟩ <;> rw [h]; simp
@[simp] theorem State.grant_clearLeft (s : State) :
    (s.grant).store.clearLeft = s.store.clearLeft := by
  rcases s.grant_cases with h | ⟨c, a, -, -, -, -, h⟩ <;> rw [h]; simp
@[simp] theorem State.grant_capture (s : State) :
    (s.grant).store.capture = s.store.capture := by
  rcases s.grant_cases with h | ⟨c, a, -, -, -, -, h⟩ <;> rw [h]; simp
@[simp] theorem State.grant_corrected (s : State) :
    (s.grant).store.corrected = s.store.corrected := by
  rcases s.grant_cases with h | ⟨c, a, -, -, -, -, h⟩ <;> rw [h]; simp
@[simp] theorem State.grant_diagMode (s : State) :
    (s.grant).store.diagMode = s.store.diagMode := by
  rcases s.grant_cases with h | ⟨c, a, -, -, -, -, h⟩ <;> rw [h]; simp
@[simp] theorem State.grant_diagValue (s : State) :
    (s.grant).store.diagValue = s.store.diagValue := by
  rcases s.grant_cases with h | ⟨c, a, -, -, -, -, h⟩ <;> rw [h]; simp
@[simp] theorem State.grant_staging (s : State) :
    (s.grant).store.staging = s.store.staging := by
  rcases s.grant_cases with h | ⟨c, a, -, -, -, -, h⟩ <;> rw [h]; simp
@[simp] theorem State.grant_storeRead (s : State) :
    (s.grant).store.read = s.store.read := by
  rcases s.grant_cases with h | ⟨c, a, -, -, -, -, h⟩ <;> rw [h]; simp
@[simp] theorem State.present_tracker (s : State) (c : Client) :
    (s.present c).tracker = s.tracker := by
  simp [State.present]
@[simp] theorem State.present_expander (s : State) (c : Client) :
    (s.present c).expander = s.expander := by
  simp [State.present]
@[simp] theorem State.present_engine (s : State) (c : Client) :
    (s.present c).engine = s.engine := by
  simp [State.present]
@[simp] theorem State.present_queue (s : State) (c : Client) :
    (s.present c).queue = s.queue := by
  simp [State.present]
@[simp] theorem State.present_bars (s : State) (c : Client) :
    (s.present c).bars = s.bars := by
  simp [State.present]
@[simp] theorem State.present_node (s : State) (c : Client) :
    (s.present c).node = s.node := by
  simp [State.present]
@[simp] theorem State.present_faults (s : State) (c : Client) :
    (s.present c).faults = s.faults := by
  simp [State.present]
@[simp] theorem State.present_ring (s : State) (c : Client) :
    (s.present c).ring = s.ring := by
  simp [State.present]
@[simp] theorem State.present_homes (s : State) (c : Client) :
    (s.present c).homes = s.homes := by
  simp [State.present]
@[simp] theorem State.present_inReset (s : State) (c : Client) :
    (s.present c).inReset = s.inReset := by
  simp [State.present]
@[simp] theorem State.present_choices (s : State) (c : Client) :
    (s.present c).choices = s.choices := by
  simp [State.present]
@[simp] theorem State.present_pending (s : State) (c : Client) :
    (s.present c).pending = s.pending := by
  simp [State.present]
@[simp] theorem State.present_words (s : State) (c : Client) :
    (s.present c).store.words = s.store.words := by
  simp [State.present]
@[simp] theorem State.present_storeState (s : State) (c : Client) :
    (s.present c).store.state = s.store.state := by
  simp [State.present]
@[simp] theorem State.present_clearLeft (s : State) (c : Client) :
    (s.present c).store.clearLeft = s.store.clearLeft := by
  simp [State.present]
@[simp] theorem State.present_capture (s : State) (c : Client) :
    (s.present c).store.capture = s.store.capture := by
  simp [State.present]
@[simp] theorem State.present_corrected (s : State) (c : Client) :
    (s.present c).store.corrected = s.store.corrected := by
  simp [State.present]
@[simp] theorem State.present_diagMode (s : State) (c : Client) :
    (s.present c).store.diagMode = s.store.diagMode := by
  simp [State.present]
@[simp] theorem State.present_diagValue (s : State) (c : Client) :
    (s.present c).store.diagValue = s.store.diagValue := by
  simp [State.present]
@[simp] theorem State.present_staging (s : State) (c : Client) :
    (s.present c).store.staging = s.store.staging := by
  simp [State.present]
@[simp] theorem State.present_storeRead (s : State) (c : Client) :
    (s.present c).store.read = s.store.read := by
  simp [State.present]

/-! ### The queue at a boundary (R86 to R92) -/

@[simp] theorem State.makeDueCheck_tracker (s : State) (t : Nat) (r : CourseRecord) :
    (s.makeDueCheck t r).tracker = s.tracker := by
  unfold State.makeDueCheck; simp only []; split <;> simp
@[simp] theorem State.makeDueCheck_store (s : State) (t : Nat) (r : CourseRecord) :
    (s.makeDueCheck t r).store = s.store := by
  unfold State.makeDueCheck; simp only []; split <;> simp
@[simp] theorem State.makeDueCheck_expander (s : State) (t : Nat) (r : CourseRecord) :
    (s.makeDueCheck t r).expander = s.expander := by
  unfold State.makeDueCheck; simp only []; split <;> simp
@[simp] theorem State.makeDueCheck_engine (s : State) (t : Nat) (r : CourseRecord) :
    (s.makeDueCheck t r).engine = s.engine := by
  unfold State.makeDueCheck; simp only []; split <;> simp
@[simp] theorem State.makeDueCheck_bars (s : State) (t : Nat) (r : CourseRecord) :
    (s.makeDueCheck t r).bars = s.bars := by
  unfold State.makeDueCheck; simp only []; split <;> simp
@[simp] theorem State.makeDueCheck_ring (s : State) (t : Nat) (r : CourseRecord) :
    (s.makeDueCheck t r).ring = s.ring := by
  unfold State.makeDueCheck; simp only []; split <;> simp
@[simp] theorem State.makeDueCheck_homes (s : State) (t : Nat) (r : CourseRecord) :
    (s.makeDueCheck t r).homes = s.homes := by
  unfold State.makeDueCheck; simp only []; split <;> simp
@[simp] theorem State.makeDueCheck_inReset (s : State) (t : Nat) (r : CourseRecord) :
    (s.makeDueCheck t r).inReset = s.inReset := by
  unfold State.makeDueCheck; simp only []; split <;> simp
@[simp] theorem State.makeDueCheck_choices (s : State) (t : Nat) (r : CourseRecord) :
    (s.makeDueCheck t r).choices = s.choices := by
  unfold State.makeDueCheck; simp only []; split <;> simp
@[simp] theorem State.makeDueCheck_pending (s : State) (t : Nat) (r : CourseRecord) :
    (s.makeDueCheck t r).pending = s.pending := by
  unfold State.makeDueCheck; simp only []; split <;> simp
@[simp] theorem State.stepQueue_tracker (s : State) (t : Nat) (r : CourseRecord) (rest : List CourseRecord) :
    (s.stepQueue t r rest).tracker = s.tracker := by
  unfold State.stepQueue; simp only []; split <;> simp
@[simp] theorem State.stepQueue_store (s : State) (t : Nat) (r : CourseRecord) (rest : List CourseRecord) :
    (s.stepQueue t r rest).store = s.store := by
  unfold State.stepQueue; simp only []; split <;> simp
@[simp] theorem State.stepQueue_expander (s : State) (t : Nat) (r : CourseRecord) (rest : List CourseRecord) :
    (s.stepQueue t r rest).expander = s.expander := by
  unfold State.stepQueue; simp only []; split <;> simp
@[simp] theorem State.stepQueue_engine (s : State) (t : Nat) (r : CourseRecord) (rest : List CourseRecord) :
    (s.stepQueue t r rest).engine = s.engine := by
  unfold State.stepQueue; simp only []; split <;> simp
@[simp] theorem State.stepQueue_ring (s : State) (t : Nat) (r : CourseRecord) (rest : List CourseRecord) :
    (s.stepQueue t r rest).ring = s.ring := by
  unfold State.stepQueue; simp only []; split <;> simp
@[simp] theorem State.stepQueue_homes (s : State) (t : Nat) (r : CourseRecord) (rest : List CourseRecord) :
    (s.stepQueue t r rest).homes = s.homes := by
  unfold State.stepQueue; simp only []; split <;> simp
@[simp] theorem State.stepQueue_inReset (s : State) (t : Nat) (r : CourseRecord) (rest : List CourseRecord) :
    (s.stepQueue t r rest).inReset = s.inReset := by
  unfold State.stepQueue; simp only []; split <;> simp
@[simp] theorem State.stepQueue_choices (s : State) (t : Nat) (r : CourseRecord) (rest : List CourseRecord) :
    (s.stepQueue t r rest).choices = s.choices := by
  unfold State.stepQueue; simp only []; split <;> simp
@[simp] theorem State.stepQueue_pending (s : State) (t : Nat) (r : CourseRecord) (rest : List CourseRecord) :
    (s.stepQueue t r rest).pending = s.pending := by
  unfold State.stepQueue; simp only []; split <;> simp
@[simp] theorem State.runDry_tracker (s : State) :
    (s.runDry).tracker = s.tracker := by
  simp [State.runDry]
@[simp] theorem State.runDry_store (s : State) :
    (s.runDry).store = s.store := by
  simp [State.runDry]
@[simp] theorem State.runDry_expander (s : State) :
    (s.runDry).expander = s.expander := by
  simp [State.runDry]
@[simp] theorem State.runDry_engine (s : State) :
    (s.runDry).engine = s.engine := by
  simp [State.runDry]
@[simp] theorem State.runDry_queue (s : State) :
    (s.runDry).queue = s.queue := by
  simp [State.runDry]
@[simp] theorem State.runDry_ring (s : State) :
    (s.runDry).ring = s.ring := by
  simp [State.runDry]
@[simp] theorem State.runDry_homes (s : State) :
    (s.runDry).homes = s.homes := by
  simp [State.runDry]
@[simp] theorem State.runDry_inReset (s : State) :
    (s.runDry).inReset = s.inReset := by
  simp [State.runDry]
@[simp] theorem State.runDry_choices (s : State) :
    (s.runDry).choices = s.choices := by
  simp [State.runDry]
@[simp] theorem State.runDry_pending (s : State) :
    (s.runDry).pending = s.pending := by
  simp [State.runDry]
@[simp] theorem State.forwardBoundary_tracker (s : State) (t : Nat) :
    (s.forwardBoundary t).tracker = s.tracker := by
  unfold State.forwardBoundary; split <;> [rfl; (split <;> simp); (split <;> simp); (split <;> simp); (split <;> simp)]
@[simp] theorem State.forwardBoundary_store (s : State) (t : Nat) :
    (s.forwardBoundary t).store = s.store := by
  unfold State.forwardBoundary; split <;> [rfl; (split <;> simp); (split <;> simp); (split <;> simp); (split <;> simp)]
@[simp] theorem State.forwardBoundary_expander (s : State) (t : Nat) :
    (s.forwardBoundary t).expander = s.expander := by
  unfold State.forwardBoundary; split <;> [rfl; (split <;> simp); (split <;> simp); (split <;> simp); (split <;> simp)]
@[simp] theorem State.forwardBoundary_engine (s : State) (t : Nat) :
    (s.forwardBoundary t).engine = s.engine := by
  unfold State.forwardBoundary; split <;> [rfl; (split <;> simp); (split <;> simp); (split <;> simp); (split <;> simp)]
@[simp] theorem State.forwardBoundary_ring (s : State) (t : Nat) :
    (s.forwardBoundary t).ring = s.ring := by
  unfold State.forwardBoundary; split <;> [rfl; (split <;> simp); (split <;> simp); (split <;> simp); (split <;> simp)]
@[simp] theorem State.forwardBoundary_homes (s : State) (t : Nat) :
    (s.forwardBoundary t).homes = s.homes := by
  unfold State.forwardBoundary; split <;> [rfl; (split <;> simp); (split <;> simp); (split <;> simp); (split <;> simp)]
@[simp] theorem State.forwardBoundary_inReset (s : State) (t : Nat) :
    (s.forwardBoundary t).inReset = s.inReset := by
  unfold State.forwardBoundary; split <;> [rfl; (split <;> simp); (split <;> simp); (split <;> simp); (split <;> simp)]
@[simp] theorem State.forwardBoundary_choices (s : State) (t : Nat) :
    (s.forwardBoundary t).choices = s.choices := by
  unfold State.forwardBoundary; split <;> [rfl; (split <;> simp); (split <;> simp); (split <;> simp); (split <;> simp)]
@[simp] theorem State.forwardBoundary_pending (s : State) (t : Nat) :
    (s.forwardBoundary t).pending = s.pending := by
  unfold State.forwardBoundary; split <;> [rfl; (split <;> simp); (split <;> simp); (split <;> simp); (split <;> simp)]
@[simp] theorem State.reverseBoundary_tracker (s : State) :
    (s.reverseBoundary).tracker = s.tracker := by
  unfold State.reverseBoundary; split <;> [rfl; rfl; (split <;> simp); (split <;> simp); (split <;> simp)]
@[simp] theorem State.reverseBoundary_store (s : State) :
    (s.reverseBoundary).store = s.store := by
  unfold State.reverseBoundary; split <;> [rfl; rfl; (split <;> simp); (split <;> simp); (split <;> simp)]
@[simp] theorem State.reverseBoundary_expander (s : State) :
    (s.reverseBoundary).expander = s.expander := by
  unfold State.reverseBoundary; split <;> [rfl; rfl; (split <;> simp); (split <;> simp); (split <;> simp)]
@[simp] theorem State.reverseBoundary_engine (s : State) :
    (s.reverseBoundary).engine = s.engine := by
  unfold State.reverseBoundary; split <;> [rfl; rfl; (split <;> simp); (split <;> simp); (split <;> simp)]
@[simp] theorem State.reverseBoundary_bars (s : State) :
    (s.reverseBoundary).bars = s.bars := by
  unfold State.reverseBoundary; split <;> [rfl; rfl; (split <;> simp); (split <;> simp); (split <;> simp)]
@[simp] theorem State.reverseBoundary_ring (s : State) :
    (s.reverseBoundary).ring = s.ring := by
  unfold State.reverseBoundary; split <;> [rfl; rfl; (split <;> simp); (split <;> simp); (split <;> simp)]
@[simp] theorem State.reverseBoundary_homes (s : State) :
    (s.reverseBoundary).homes = s.homes := by
  unfold State.reverseBoundary; split <;> [rfl; rfl; (split <;> simp); (split <;> simp); (split <;> simp)]
@[simp] theorem State.reverseBoundary_inReset (s : State) :
    (s.reverseBoundary).inReset = s.inReset := by
  unfold State.reverseBoundary; split <;> [rfl; rfl; (split <;> simp); (split <;> simp); (split <;> simp)]
@[simp] theorem State.reverseBoundary_choices (s : State) :
    (s.reverseBoundary).choices = s.choices := by
  unfold State.reverseBoundary; split <;> [rfl; rfl; (split <;> simp); (split <;> simp); (split <;> simp)]
@[simp] theorem State.reverseBoundary_pending (s : State) :
    (s.reverseBoundary).pending = s.pending := by
  unfold State.reverseBoundary; split <;> [rfl; rfl; (split <;> simp); (split <;> simp); (split <;> simp)]
@[simp] theorem State.boundary_tracker (s : State) (f : Bool) (t : Nat) :
    (s.boundary f t).tracker = s.tracker := by
  unfold State.boundary; split <;> simp
@[simp] theorem State.boundary_store (s : State) (f : Bool) (t : Nat) :
    (s.boundary f t).store = s.store := by
  unfold State.boundary; split <;> simp
@[simp] theorem State.boundary_expander (s : State) (f : Bool) (t : Nat) :
    (s.boundary f t).expander = s.expander := by
  unfold State.boundary; split <;> simp
@[simp] theorem State.boundary_engine (s : State) (f : Bool) (t : Nat) :
    (s.boundary f t).engine = s.engine := by
  unfold State.boundary; split <;> simp
@[simp] theorem State.boundary_ring (s : State) (f : Bool) (t : Nat) :
    (s.boundary f t).ring = s.ring := by
  unfold State.boundary; split <;> simp
@[simp] theorem State.boundary_homes (s : State) (f : Bool) (t : Nat) :
    (s.boundary f t).homes = s.homes := by
  unfold State.boundary; split <;> simp
@[simp] theorem State.boundary_inReset (s : State) (f : Bool) (t : Nat) :
    (s.boundary f t).inReset = s.inReset := by
  unfold State.boundary; split <;> simp
@[simp] theorem State.boundary_choices (s : State) (f : Bool) (t : Nat) :
    (s.boundary f t).choices = s.choices := by
  unfold State.boundary; split <;> simp
@[simp] theorem State.boundary_pending (s : State) (f : Bool) (t : Nat) :
    (s.boundary f t).pending = s.pending := by
  unfold State.boundary; split <;> simp

/-! ### Window crossings (R123) -/

@[simp] theorem takeCourseTarget_tracker (s : State) (c : Crossing) (needle : Nat) :
    (takeCourseTarget s c needle).tracker = s.tracker := by
  unfold takeCourseTarget; simp only []; split <;> simp
@[simp] theorem takeCourseTarget_store (s : State) (c : Crossing) (needle : Nat) :
    (takeCourseTarget s c needle).store = s.store := by
  unfold takeCourseTarget; simp only []; split <;> simp
@[simp] theorem takeCourseTarget_expander (s : State) (c : Crossing) (needle : Nat) :
    (takeCourseTarget s c needle).expander = s.expander := by
  unfold takeCourseTarget; simp only []; split <;> simp
@[simp] theorem takeCourseTarget_engine (s : State) (c : Crossing) (needle : Nat) :
    (takeCourseTarget s c needle).engine = s.engine := by
  unfold takeCourseTarget; simp only []; split <;> simp
@[simp] theorem takeCourseTarget_queue (s : State) (c : Crossing) (needle : Nat) :
    (takeCourseTarget s c needle).queue = s.queue := by
  unfold takeCourseTarget; simp only []; split <;> simp
@[simp] theorem takeCourseTarget_node (s : State) (c : Crossing) (needle : Nat) :
    (takeCourseTarget s c needle).node = s.node := by
  unfold takeCourseTarget; simp only []; split <;> simp
@[simp] theorem takeCourseTarget_ring (s : State) (c : Crossing) (needle : Nat) :
    (takeCourseTarget s c needle).ring = s.ring := by
  unfold takeCourseTarget; simp only []; split <;> simp
@[simp] theorem takeCourseTarget_homes (s : State) (c : Crossing) (needle : Nat) :
    (takeCourseTarget s c needle).homes = s.homes := by
  unfold takeCourseTarget; simp only []; split <;> simp
@[simp] theorem takeCourseTarget_inReset (s : State) (c : Crossing) (needle : Nat) :
    (takeCourseTarget s c needle).inReset = s.inReset := by
  unfold takeCourseTarget; simp only []; split <;> simp
@[simp] theorem takeCourseTarget_choices (s : State) (c : Crossing) (needle : Nat) :
    (takeCourseTarget s c needle).choices = s.choices := by
  unfold takeCourseTarget; simp only []; split <;> simp
@[simp] theorem takeCourseTarget_pending (s : State) (c : Crossing) (needle : Nat) :
    (takeCourseTarget s c needle).pending = s.pending := by
  unfold takeCourseTarget; simp only []; split <;> simp
@[simp] theorem takeCrossing_tracker (s : State) (c : Crossing) :
    (takeCrossing s c).tracker = s.tracker := by
  unfold takeCrossing; split <;> [(split <;> (split <;> simp)); rfl]
@[simp] theorem takeCrossing_store (s : State) (c : Crossing) :
    (takeCrossing s c).store = s.store := by
  unfold takeCrossing; split <;> [(split <;> (split <;> simp)); rfl]
@[simp] theorem takeCrossing_expander (s : State) (c : Crossing) :
    (takeCrossing s c).expander = s.expander := by
  unfold takeCrossing; split <;> [(split <;> (split <;> simp)); rfl]
@[simp] theorem takeCrossing_engine (s : State) (c : Crossing) :
    (takeCrossing s c).engine = s.engine := by
  unfold takeCrossing; split <;> [(split <;> (split <;> simp)); rfl]
@[simp] theorem takeCrossing_queue (s : State) (c : Crossing) :
    (takeCrossing s c).queue = s.queue := by
  unfold takeCrossing; split <;> [(split <;> (split <;> simp)); rfl]
@[simp] theorem takeCrossing_node (s : State) (c : Crossing) :
    (takeCrossing s c).node = s.node := by
  unfold takeCrossing; split <;> [(split <;> (split <;> simp)); rfl]
@[simp] theorem takeCrossing_ring (s : State) (c : Crossing) :
    (takeCrossing s c).ring = s.ring := by
  unfold takeCrossing; split <;> [(split <;> (split <;> simp)); rfl]
@[simp] theorem takeCrossing_homes (s : State) (c : Crossing) :
    (takeCrossing s c).homes = s.homes := by
  unfold takeCrossing; split <;> [(split <;> (split <;> simp)); rfl]
@[simp] theorem takeCrossing_inReset (s : State) (c : Crossing) :
    (takeCrossing s c).inReset = s.inReset := by
  unfold takeCrossing; split <;> [(split <;> (split <;> simp)); rfl]
@[simp] theorem takeCrossing_choices (s : State) (c : Crossing) :
    (takeCrossing s c).choices = s.choices := by
  unfold takeCrossing; split <;> [(split <;> (split <;> simp)); rfl]
@[simp] theorem takeCrossing_pending (s : State) (c : Crossing) :
    (takeCrossing s c).pending = s.pending := by
  unfold takeCrossing; split <;> [(split <;> (split <;> simp)); rfl]
@[simp] theorem takeCrossings_tracker (s : State) (cs : List Crossing) : (takeCrossings s cs).1.tracker = s.tracker := by
  induction cs generalizing s with
  | nil => rfl
  | cons c rest ih => simp [takeCrossings, ih]
@[simp] theorem takeCrossings_store (s : State) (cs : List Crossing) : (takeCrossings s cs).1.store = s.store := by
  induction cs generalizing s with
  | nil => rfl
  | cons c rest ih => simp [takeCrossings, ih]
@[simp] theorem takeCrossings_expander (s : State) (cs : List Crossing) : (takeCrossings s cs).1.expander = s.expander := by
  induction cs generalizing s with
  | nil => rfl
  | cons c rest ih => simp [takeCrossings, ih]
@[simp] theorem takeCrossings_engine (s : State) (cs : List Crossing) : (takeCrossings s cs).1.engine = s.engine := by
  induction cs generalizing s with
  | nil => rfl
  | cons c rest ih => simp [takeCrossings, ih]
@[simp] theorem takeCrossings_queue (s : State) (cs : List Crossing) : (takeCrossings s cs).1.queue = s.queue := by
  induction cs generalizing s with
  | nil => rfl
  | cons c rest ih => simp [takeCrossings, ih]
@[simp] theorem takeCrossings_node (s : State) (cs : List Crossing) : (takeCrossings s cs).1.node = s.node := by
  induction cs generalizing s with
  | nil => rfl
  | cons c rest ih => simp [takeCrossings, ih]
@[simp] theorem takeCrossings_ring (s : State) (cs : List Crossing) : (takeCrossings s cs).1.ring = s.ring := by
  induction cs generalizing s with
  | nil => rfl
  | cons c rest ih => simp [takeCrossings, ih]
@[simp] theorem takeCrossings_homes (s : State) (cs : List Crossing) : (takeCrossings s cs).1.homes = s.homes := by
  induction cs generalizing s with
  | nil => rfl
  | cons c rest ih => simp [takeCrossings, ih]
@[simp] theorem takeCrossings_inReset (s : State) (cs : List Crossing) : (takeCrossings s cs).1.inReset = s.inReset := by
  induction cs generalizing s with
  | nil => rfl
  | cons c rest ih => simp [takeCrossings, ih]
@[simp] theorem takeCrossings_choices (s : State) (cs : List Crossing) : (takeCrossings s cs).1.choices = s.choices := by
  induction cs generalizing s with
  | nil => rfl
  | cons c rest ih => simp [takeCrossings, ih]
@[simp] theorem takeCrossings_pending (s : State) (cs : List Crossing) : (takeCrossings s cs).1.pending = s.pending := by
  induction cs generalizing s with
  | nil => rfl
  | cons c rest ih => simp [takeCrossings, ih]

/-! ### The end of a move and of a catch-up (R116, R146) -/

@[simp] theorem State.evaluateCatchup_tracker (s : State) :
    (s.evaluateCatchup).tracker = s.tracker := by
  unfold State.evaluateCatchup; split <;> rfl
@[simp] theorem State.evaluateCatchup_store (s : State) :
    (s.evaluateCatchup).store = s.store := by
  unfold State.evaluateCatchup; split <;> rfl
@[simp] theorem State.evaluateCatchup_expander (s : State) :
    (s.evaluateCatchup).expander = s.expander := by
  unfold State.evaluateCatchup; split <;> rfl
@[simp] theorem State.evaluateCatchup_engine (s : State) :
    (s.evaluateCatchup).engine = s.engine := by
  unfold State.evaluateCatchup; split <;> rfl
@[simp] theorem State.evaluateCatchup_queue (s : State) :
    (s.evaluateCatchup).queue = s.queue := by
  unfold State.evaluateCatchup; split <;> rfl
@[simp] theorem State.evaluateCatchup_bars (s : State) :
    (s.evaluateCatchup).bars = s.bars := by
  unfold State.evaluateCatchup; split <;> rfl
@[simp] theorem State.evaluateCatchup_faults (s : State) :
    (s.evaluateCatchup).faults = s.faults := by
  unfold State.evaluateCatchup; split <;> rfl
@[simp] theorem State.evaluateCatchup_ring (s : State) :
    (s.evaluateCatchup).ring = s.ring := by
  unfold State.evaluateCatchup; split <;> rfl
@[simp] theorem State.evaluateCatchup_homes (s : State) :
    (s.evaluateCatchup).homes = s.homes := by
  unfold State.evaluateCatchup; split <;> rfl
@[simp] theorem State.evaluateCatchup_inReset (s : State) :
    (s.evaluateCatchup).inReset = s.inReset := by
  unfold State.evaluateCatchup; split <;> rfl
@[simp] theorem State.evaluateCatchup_choices (s : State) :
    (s.evaluateCatchup).choices = s.choices := by
  unfold State.evaluateCatchup; split <;> rfl
@[simp] theorem State.evaluateCatchup_pending (s : State) :
    (s.evaluateCatchup).pending = s.pending := by
  unfold State.evaluateCatchup; split <;> rfl
@[simp] theorem State.completeMove_tracker (s : State) (n : BarIx) :
    (s.completeMove n).tracker = s.tracker := by
  simp [State.completeMove]
@[simp] theorem State.completeMove_store (s : State) (n : BarIx) :
    (s.completeMove n).store = s.store := by
  simp [State.completeMove]
@[simp] theorem State.completeMove_expander (s : State) (n : BarIx) :
    (s.completeMove n).expander = s.expander := by
  simp [State.completeMove]
@[simp] theorem State.completeMove_engine (s : State) (n : BarIx) :
    (s.completeMove n).engine = s.engine := by
  simp [State.completeMove]
@[simp] theorem State.completeMove_queue (s : State) (n : BarIx) :
    (s.completeMove n).queue = s.queue := by
  simp [State.completeMove]
@[simp] theorem State.completeMove_faults (s : State) (n : BarIx) :
    (s.completeMove n).faults = s.faults := by
  simp [State.completeMove]
@[simp] theorem State.completeMove_ring (s : State) (n : BarIx) :
    (s.completeMove n).ring = s.ring := by
  simp [State.completeMove]
@[simp] theorem State.completeMove_homes (s : State) (n : BarIx) :
    (s.completeMove n).homes = s.homes := by
  simp [State.completeMove]
@[simp] theorem State.completeMove_inReset (s : State) (n : BarIx) :
    (s.completeMove n).inReset = s.inReset := by
  simp [State.completeMove]
@[simp] theorem State.completeMove_choices (s : State) (n : BarIx) :
    (s.completeMove n).choices = s.choices := by
  simp [State.completeMove]
@[simp] theorem State.completeMove_pending (s : State) (n : BarIx) :
    (s.completeMove n).pending = s.pending := by
  simp [State.completeMove]
@[simp] theorem State.failSearch_tracker (s : State) (n : BarIx) :
    (s.failSearch n).tracker = s.tracker := by
  rfl
@[simp] theorem State.failSearch_store (s : State) (n : BarIx) :
    (s.failSearch n).store = s.store := by
  rfl
@[simp] theorem State.failSearch_expander (s : State) (n : BarIx) :
    (s.failSearch n).expander = s.expander := by
  rfl
@[simp] theorem State.failSearch_engine (s : State) (n : BarIx) :
    (s.failSearch n).engine = s.engine := by
  rfl
@[simp] theorem State.failSearch_queue (s : State) (n : BarIx) :
    (s.failSearch n).queue = s.queue := by
  rfl
@[simp] theorem State.failSearch_node (s : State) (n : BarIx) :
    (s.failSearch n).node = s.node := by
  rfl
@[simp] theorem State.failSearch_ring (s : State) (n : BarIx) :
    (s.failSearch n).ring = s.ring := by
  rfl
@[simp] theorem State.failSearch_homes (s : State) (n : BarIx) :
    (s.failSearch n).homes = s.homes := by
  rfl
@[simp] theorem State.failSearch_inReset (s : State) (n : BarIx) :
    (s.failSearch n).inReset = s.inReset := by
  rfl
@[simp] theorem State.failSearch_choices (s : State) (n : BarIx) :
    (s.failSearch n).choices = s.choices := by
  rfl
@[simp] theorem State.failSearch_pending (s : State) (n : BarIx) :
    (s.failSearch n).pending = s.pending := by
  rfl
@[simp] theorem State.sampleSearch_tracker (s : State) (n : BarIx) (x : Search) :
    (s.sampleSearch n x).tracker = s.tracker := by
  unfold State.sampleSearch; simp only []; split <;> (split <;> [simp; (split <;> simp)])
@[simp] theorem State.sampleSearch_store (s : State) (n : BarIx) (x : Search) :
    (s.sampleSearch n x).store = s.store := by
  unfold State.sampleSearch; simp only []; split <;> (split <;> [simp; (split <;> simp)])
@[simp] theorem State.sampleSearch_expander (s : State) (n : BarIx) (x : Search) :
    (s.sampleSearch n x).expander = s.expander := by
  unfold State.sampleSearch; simp only []; split <;> (split <;> [simp; (split <;> simp)])
@[simp] theorem State.sampleSearch_engine (s : State) (n : BarIx) (x : Search) :
    (s.sampleSearch n x).engine = s.engine := by
  unfold State.sampleSearch; simp only []; split <;> (split <;> [simp; (split <;> simp)])
@[simp] theorem State.sampleSearch_queue (s : State) (n : BarIx) (x : Search) :
    (s.sampleSearch n x).queue = s.queue := by
  unfold State.sampleSearch; simp only []; split <;> (split <;> [simp; (split <;> simp)])
@[simp] theorem State.sampleSearch_ring (s : State) (n : BarIx) (x : Search) :
    (s.sampleSearch n x).ring = s.ring := by
  unfold State.sampleSearch; simp only []; split <;> (split <;> [simp; (split <;> simp)])
@[simp] theorem State.sampleSearch_homes (s : State) (n : BarIx) (x : Search) :
    (s.sampleSearch n x).homes = s.homes := by
  unfold State.sampleSearch; simp only []; split <;> (split <;> [simp; (split <;> simp)])
@[simp] theorem State.sampleSearch_inReset (s : State) (n : BarIx) (x : Search) :
    (s.sampleSearch n x).inReset = s.inReset := by
  unfold State.sampleSearch; simp only []; split <;> (split <;> [simp; (split <;> simp)])
@[simp] theorem State.sampleSearch_choices (s : State) (n : BarIx) (x : Search) :
    (s.sampleSearch n x).choices = s.choices := by
  unfold State.sampleSearch; simp only []; split <;> (split <;> [simp; (split <;> simp)])
@[simp] theorem State.sampleSearch_pending (s : State) (n : BarIx) (x : Search) :
    (s.sampleSearch n x).pending = s.pending := by
  unfold State.sampleSearch; simp only []; split <;> (split <;> [simp; (split <;> simp)])

/-! ### What a word access delivers (R24 to R26) -/

@[simp] theorem State.deliverEngine_tracker (s : State) (o : ReadOutcome) :
    (s.deliverEngine o).tracker = s.tracker := by
  unfold State.deliverEngine; split <;> [rfl; (split <;> [rfl; (split <;> [rfl; (simp only []; split <;> rfl)])])]
@[simp] theorem State.deliverEngine_expander (s : State) (o : ReadOutcome) :
    (s.deliverEngine o).expander = s.expander := by
  unfold State.deliverEngine; split <;> [rfl; (split <;> [rfl; (split <;> [rfl; (simp only []; split <;> rfl)])])]
@[simp] theorem State.deliverEngine_queue (s : State) (o : ReadOutcome) :
    (s.deliverEngine o).queue = s.queue := by
  unfold State.deliverEngine; split <;> [rfl; (split <;> [rfl; (split <;> [rfl; (simp only []; split <;> rfl)])])]
@[simp] theorem State.deliverEngine_bars (s : State) (o : ReadOutcome) :
    (s.deliverEngine o).bars = s.bars := by
  unfold State.deliverEngine; split <;> [rfl; (split <;> [rfl; (split <;> [rfl; (simp only []; split <;> rfl)])])]
@[simp] theorem State.deliverEngine_node (s : State) (o : ReadOutcome) :
    (s.deliverEngine o).node = s.node := by
  unfold State.deliverEngine; split <;> [rfl; (split <;> [rfl; (split <;> [rfl; (simp only []; split <;> rfl)])])]
@[simp] theorem State.deliverEngine_faults (s : State) (o : ReadOutcome) :
    (s.deliverEngine o).faults = s.faults := by
  unfold State.deliverEngine; split <;> [rfl; (split <;> [rfl; (split <;> [rfl; (simp only []; split <;> rfl)])])]
@[simp] theorem State.deliverEngine_ring (s : State) (o : ReadOutcome) :
    (s.deliverEngine o).ring = s.ring := by
  unfold State.deliverEngine; split <;> [rfl; (split <;> [rfl; (split <;> [rfl; (simp only []; split <;> rfl)])])]
@[simp] theorem State.deliverEngine_homes (s : State) (o : ReadOutcome) :
    (s.deliverEngine o).homes = s.homes := by
  unfold State.deliverEngine; split <;> [rfl; (split <;> [rfl; (split <;> [rfl; (simp only []; split <;> rfl)])])]
@[simp] theorem State.deliverEngine_inReset (s : State) (o : ReadOutcome) :
    (s.deliverEngine o).inReset = s.inReset := by
  unfold State.deliverEngine; split <;> [rfl; (split <;> [rfl; (split <;> [rfl; (simp only []; split <;> rfl)])])]
@[simp] theorem State.deliverEngine_choices (s : State) (o : ReadOutcome) :
    (s.deliverEngine o).choices = s.choices := by
  unfold State.deliverEngine; split <;> [rfl; (split <;> [rfl; (split <;> [rfl; (simp only []; split <;> rfl)])])]
@[simp] theorem State.deliverEngine_pending (s : State) (o : ReadOutcome) :
    (s.deliverEngine o).pending = s.pending := by
  unfold State.deliverEngine; split <;> [rfl; (split <;> [rfl; (split <;> [rfl; (simp only []; split <;> rfl)])])]
@[simp] theorem State.deliverRead_tracker (s : State) (o : ReadOutcome) :
    (s.deliverRead o).tracker = s.tracker := by
  unfold State.deliverRead; split <;> [rfl; (simp only []; split <;> rfl)]
@[simp] theorem State.deliverRead_expander (s : State) (o : ReadOutcome) :
    (s.deliverRead o).expander = s.expander := by
  unfold State.deliverRead; split <;> [rfl; (simp only []; split <;> rfl)]
@[simp] theorem State.deliverRead_engine (s : State) (o : ReadOutcome) :
    (s.deliverRead o).engine = s.engine := by
  unfold State.deliverRead; split <;> [rfl; (simp only []; split <;> rfl)]
@[simp] theorem State.deliverRead_queue (s : State) (o : ReadOutcome) :
    (s.deliverRead o).queue = s.queue := by
  unfold State.deliverRead; split <;> [rfl; (simp only []; split <;> rfl)]
@[simp] theorem State.deliverRead_bars (s : State) (o : ReadOutcome) :
    (s.deliverRead o).bars = s.bars := by
  unfold State.deliverRead; split <;> [rfl; (simp only []; split <;> rfl)]
@[simp] theorem State.deliverRead_node (s : State) (o : ReadOutcome) :
    (s.deliverRead o).node = s.node := by
  unfold State.deliverRead; split <;> [rfl; (simp only []; split <;> rfl)]
@[simp] theorem State.deliverRead_faults (s : State) (o : ReadOutcome) :
    (s.deliverRead o).faults = s.faults := by
  unfold State.deliverRead; split <;> [rfl; (simp only []; split <;> rfl)]
@[simp] theorem State.deliverRead_homes (s : State) (o : ReadOutcome) :
    (s.deliverRead o).homes = s.homes := by
  unfold State.deliverRead; split <;> [rfl; (simp only []; split <;> rfl)]
@[simp] theorem State.deliverRead_inReset (s : State) (o : ReadOutcome) :
    (s.deliverRead o).inReset = s.inReset := by
  unfold State.deliverRead; split <;> [rfl; (simp only []; split <;> rfl)]
@[simp] theorem State.deliverRead_choices (s : State) (o : ReadOutcome) :
    (s.deliverRead o).choices = s.choices := by
  unfold State.deliverRead; split <;> [rfl; (simp only []; split <;> rfl)]
@[simp] theorem State.deliverRead_pending (s : State) (o : ReadOutcome) :
    (s.deliverRead o).pending = s.pending := by
  unfold State.deliverRead; split <;> [rfl; (simp only []; split <;> rfl)]
@[simp] theorem State.deliverExpander_tracker (s : State) (o : ReadOutcome) :
    (s.deliverExpander o).tracker = s.tracker := by
  unfold State.deliverExpander; split <;> [rfl; (simp only []; split <;> rfl)]
@[simp] theorem State.deliverExpander_engine (s : State) (o : ReadOutcome) :
    (s.deliverExpander o).engine = s.engine := by
  unfold State.deliverExpander; split <;> [rfl; (simp only []; split <;> rfl)]
@[simp] theorem State.deliverExpander_queue (s : State) (o : ReadOutcome) :
    (s.deliverExpander o).queue = s.queue := by
  unfold State.deliverExpander; split <;> [rfl; (simp only []; split <;> rfl)]
@[simp] theorem State.deliverExpander_bars (s : State) (o : ReadOutcome) :
    (s.deliverExpander o).bars = s.bars := by
  unfold State.deliverExpander; split <;> [rfl; (simp only []; split <;> rfl)]
@[simp] theorem State.deliverExpander_node (s : State) (o : ReadOutcome) :
    (s.deliverExpander o).node = s.node := by
  unfold State.deliverExpander; split <;> [rfl; (simp only []; split <;> rfl)]
@[simp] theorem State.deliverExpander_faults (s : State) (o : ReadOutcome) :
    (s.deliverExpander o).faults = s.faults := by
  unfold State.deliverExpander; split <;> [rfl; (simp only []; split <;> rfl)]
@[simp] theorem State.deliverExpander_ring (s : State) (o : ReadOutcome) :
    (s.deliverExpander o).ring = s.ring := by
  unfold State.deliverExpander; split <;> [rfl; (simp only []; split <;> rfl)]
@[simp] theorem State.deliverExpander_homes (s : State) (o : ReadOutcome) :
    (s.deliverExpander o).homes = s.homes := by
  unfold State.deliverExpander; split <;> [rfl; (simp only []; split <;> rfl)]
@[simp] theorem State.deliverExpander_inReset (s : State) (o : ReadOutcome) :
    (s.deliverExpander o).inReset = s.inReset := by
  unfold State.deliverExpander; split <;> [rfl; (simp only []; split <;> rfl)]
@[simp] theorem State.deliverExpander_choices (s : State) (o : ReadOutcome) :
    (s.deliverExpander o).choices = s.choices := by
  unfold State.deliverExpander; split <;> [rfl; (simp only []; split <;> rfl)]
@[simp] theorem State.deliverExpander_pending (s : State) (o : ReadOutcome) :
    (s.deliverExpander o).pending = s.pending := by
  unfold State.deliverExpander; split <;> [rfl; (simp only []; split <;> rfl)]
@[simp] theorem State.deliver_tracker (s : State) (c : Client) (o : ReadOutcome) :
    (s.deliver c o).tracker = s.tracker := by
  cases c <;> simp [State.deliver]
@[simp] theorem State.deliver_queue (s : State) (c : Client) (o : ReadOutcome) :
    (s.deliver c o).queue = s.queue := by
  cases c <;> simp [State.deliver]
@[simp] theorem State.deliver_bars (s : State) (c : Client) (o : ReadOutcome) :
    (s.deliver c o).bars = s.bars := by
  cases c <;> simp [State.deliver]
@[simp] theorem State.deliver_node (s : State) (c : Client) (o : ReadOutcome) :
    (s.deliver c o).node = s.node := by
  cases c <;> simp [State.deliver]
@[simp] theorem State.deliver_faults (s : State) (c : Client) (o : ReadOutcome) :
    (s.deliver c o).faults = s.faults := by
  cases c <;> simp [State.deliver]
@[simp] theorem State.deliver_homes (s : State) (c : Client) (o : ReadOutcome) :
    (s.deliver c o).homes = s.homes := by
  cases c <;> simp [State.deliver]
@[simp] theorem State.deliver_inReset (s : State) (c : Client) (o : ReadOutcome) :
    (s.deliver c o).inReset = s.inReset := by
  cases c <;> simp [State.deliver]
@[simp] theorem State.deliver_choices (s : State) (c : Client) (o : ReadOutcome) :
    (s.deliver c o).choices = s.choices := by
  cases c <;> simp [State.deliver]
@[simp] theorem State.deliver_pending (s : State) (c : Client) (o : ReadOutcome) :
    (s.deliver c o).pending = s.pending := by
  cases c <;> simp [State.deliver]
@[simp] theorem State.wroteStaged_tracker (s : State) (a : Nat) :
    (s.wroteStaged a).tracker = s.tracker := by
  rfl
@[simp] theorem State.wroteStaged_expander (s : State) (a : Nat) :
    (s.wroteStaged a).expander = s.expander := by
  rfl
@[simp] theorem State.wroteStaged_queue (s : State) (a : Nat) :
    (s.wroteStaged a).queue = s.queue := by
  rfl
@[simp] theorem State.wroteStaged_bars (s : State) (a : Nat) :
    (s.wroteStaged a).bars = s.bars := by
  rfl
@[simp] theorem State.wroteStaged_node (s : State) (a : Nat) :
    (s.wroteStaged a).node = s.node := by
  rfl
@[simp] theorem State.wroteStaged_faults (s : State) (a : Nat) :
    (s.wroteStaged a).faults = s.faults := by
  rfl
@[simp] theorem State.wroteStaged_ring (s : State) (a : Nat) :
    (s.wroteStaged a).ring = s.ring := by
  rfl
@[simp] theorem State.wroteStaged_homes (s : State) (a : Nat) :
    (s.wroteStaged a).homes = s.homes := by
  rfl
@[simp] theorem State.wroteStaged_inReset (s : State) (a : Nat) :
    (s.wroteStaged a).inReset = s.inReset := by
  rfl
@[simp] theorem State.wroteStaged_choices (s : State) (a : Nat) :
    (s.wroteStaged a).choices = s.choices := by
  rfl
@[simp] theorem State.wroteStaged_pending (s : State) (a : Nat) :
    (s.wroteStaged a).pending = s.pending := by
  rfl

/-! ### Course frames (R53, R78) -/

@[simp] theorem State.beginExpansion_tracker (s : State) (t : Nat) (f : CourseFrame) :
    (s.beginExpansion t f).tracker = s.tracker := by
  unfold State.beginExpansion; simp only []; split <;> simp
@[simp] theorem State.beginExpansion_engine (s : State) (t : Nat) (f : CourseFrame) :
    (s.beginExpansion t f).engine = s.engine := by
  unfold State.beginExpansion; simp only []; split <;> simp
@[simp] theorem State.beginExpansion_queue (s : State) (t : Nat) (f : CourseFrame) :
    (s.beginExpansion t f).queue = s.queue := by
  unfold State.beginExpansion; simp only []; split <;> simp
@[simp] theorem State.beginExpansion_bars (s : State) (t : Nat) (f : CourseFrame) :
    (s.beginExpansion t f).bars = s.bars := by
  unfold State.beginExpansion; simp only []; split <;> simp
@[simp] theorem State.beginExpansion_node (s : State) (t : Nat) (f : CourseFrame) :
    (s.beginExpansion t f).node = s.node := by
  unfold State.beginExpansion; simp only []; split <;> simp
@[simp] theorem State.beginExpansion_faults (s : State) (t : Nat) (f : CourseFrame) :
    (s.beginExpansion t f).faults = s.faults := by
  unfold State.beginExpansion; simp only []; split <;> simp
@[simp] theorem State.beginExpansion_ring (s : State) (t : Nat) (f : CourseFrame) :
    (s.beginExpansion t f).ring = s.ring := by
  unfold State.beginExpansion; simp only []; split <;> simp
@[simp] theorem State.beginExpansion_homes (s : State) (t : Nat) (f : CourseFrame) :
    (s.beginExpansion t f).homes = s.homes := by
  unfold State.beginExpansion; simp only []; split <;> simp
@[simp] theorem State.beginExpansion_inReset (s : State) (t : Nat) (f : CourseFrame) :
    (s.beginExpansion t f).inReset = s.inReset := by
  unfold State.beginExpansion; simp only []; split <;> simp
@[simp] theorem State.beginExpansion_choices (s : State) (t : Nat) (f : CourseFrame) :
    (s.beginExpansion t f).choices = s.choices := by
  unfold State.beginExpansion; simp only []; split <;> simp
@[simp] theorem State.beginExpansion_pending (s : State) (t : Nat) (f : CourseFrame) :
    (s.beginExpansion t f).pending = s.pending := by
  unfold State.beginExpansion; simp only []; split <;> simp
@[simp] theorem State.handOver_tracker (s : State) (t : Nat) (f : CourseFrame) :
    (s.handOver t f).tracker = s.tracker := by
  unfold State.handOver; split <;> simp
@[simp] theorem State.handOver_engine (s : State) (t : Nat) (f : CourseFrame) :
    (s.handOver t f).engine = s.engine := by
  unfold State.handOver; split <;> simp
@[simp] theorem State.handOver_queue (s : State) (t : Nat) (f : CourseFrame) :
    (s.handOver t f).queue = s.queue := by
  unfold State.handOver; split <;> simp
@[simp] theorem State.handOver_bars (s : State) (t : Nat) (f : CourseFrame) :
    (s.handOver t f).bars = s.bars := by
  unfold State.handOver; split <;> simp
@[simp] theorem State.handOver_node (s : State) (t : Nat) (f : CourseFrame) :
    (s.handOver t f).node = s.node := by
  unfold State.handOver; split <;> simp
@[simp] theorem State.handOver_faults (s : State) (t : Nat) (f : CourseFrame) :
    (s.handOver t f).faults = s.faults := by
  unfold State.handOver; split <;> simp
@[simp] theorem State.handOver_homes (s : State) (t : Nat) (f : CourseFrame) :
    (s.handOver t f).homes = s.homes := by
  unfold State.handOver; split <;> simp
@[simp] theorem State.handOver_inReset (s : State) (t : Nat) (f : CourseFrame) :
    (s.handOver t f).inReset = s.inReset := by
  unfold State.handOver; split <;> simp
@[simp] theorem State.handOver_choices (s : State) (t : Nat) (f : CourseFrame) :
    (s.handOver t f).choices = s.choices := by
  unfold State.handOver; split <;> simp
@[simp] theorem State.handOver_pending (s : State) (t : Nat) (f : CourseFrame) :
    (s.handOver t f).pending = s.pending := by
  unfold State.handOver; split <;> simp
@[simp] theorem handOverWaiting_tracker (fs : List (Nat × CourseFrame)) (s : State) :
    (handOverWaiting fs s).tracker = s.tracker := by
  induction fs generalizing s with
  | nil => rfl
  | cons e rest ih => obtain ⟨t, f⟩ := e; simp only [handOverWaiting]; split <;> simp [ih]
@[simp] theorem handOverWaiting_engine (fs : List (Nat × CourseFrame)) (s : State) :
    (handOverWaiting fs s).engine = s.engine := by
  induction fs generalizing s with
  | nil => rfl
  | cons e rest ih => obtain ⟨t, f⟩ := e; simp only [handOverWaiting]; split <;> simp [ih]
@[simp] theorem handOverWaiting_queue (fs : List (Nat × CourseFrame)) (s : State) :
    (handOverWaiting fs s).queue = s.queue := by
  induction fs generalizing s with
  | nil => rfl
  | cons e rest ih => obtain ⟨t, f⟩ := e; simp only [handOverWaiting]; split <;> simp [ih]
@[simp] theorem handOverWaiting_bars (fs : List (Nat × CourseFrame)) (s : State) :
    (handOverWaiting fs s).bars = s.bars := by
  induction fs generalizing s with
  | nil => rfl
  | cons e rest ih => obtain ⟨t, f⟩ := e; simp only [handOverWaiting]; split <;> simp [ih]
@[simp] theorem handOverWaiting_node (fs : List (Nat × CourseFrame)) (s : State) :
    (handOverWaiting fs s).node = s.node := by
  induction fs generalizing s with
  | nil => rfl
  | cons e rest ih => obtain ⟨t, f⟩ := e; simp only [handOverWaiting]; split <;> simp [ih]
@[simp] theorem handOverWaiting_faults (fs : List (Nat × CourseFrame)) (s : State) :
    (handOverWaiting fs s).faults = s.faults := by
  induction fs generalizing s with
  | nil => rfl
  | cons e rest ih => obtain ⟨t, f⟩ := e; simp only [handOverWaiting]; split <;> simp [ih]
@[simp] theorem handOverWaiting_homes (fs : List (Nat × CourseFrame)) (s : State) :
    (handOverWaiting fs s).homes = s.homes := by
  induction fs generalizing s with
  | nil => rfl
  | cons e rest ih => obtain ⟨t, f⟩ := e; simp only [handOverWaiting]; split <;> simp [ih]
@[simp] theorem handOverWaiting_inReset (fs : List (Nat × CourseFrame)) (s : State) :
    (handOverWaiting fs s).inReset = s.inReset := by
  induction fs generalizing s with
  | nil => rfl
  | cons e rest ih => obtain ⟨t, f⟩ := e; simp only [handOverWaiting]; split <;> simp [ih]
@[simp] theorem handOverWaiting_choices (fs : List (Nat × CourseFrame)) (s : State) :
    (handOverWaiting fs s).choices = s.choices := by
  induction fs generalizing s with
  | nil => rfl
  | cons e rest ih => obtain ⟨t, f⟩ := e; simp only [handOverWaiting]; split <;> simp [ih]
@[simp] theorem handOverWaiting_pending (fs : List (Nat × CourseFrame)) (s : State) :
    (handOverWaiting fs s).pending = s.pending := by
  induction fs generalizing s with
  | nil => rfl
  | cons e rest ih => obtain ⟨t, f⟩ := e; simp only [handOverWaiting]; split <;> simp [ih]
@[simp] theorem State.releaseWaiting_tracker (s : State) : s.releaseWaiting.tracker = s.tracker := by
  unfold State.releaseWaiting; split <;> simp
@[simp] theorem State.releaseWaiting_engine (s : State) : s.releaseWaiting.engine = s.engine := by
  unfold State.releaseWaiting; split <;> simp
@[simp] theorem State.releaseWaiting_queue (s : State) : s.releaseWaiting.queue = s.queue := by
  unfold State.releaseWaiting; split <;> simp
@[simp] theorem State.releaseWaiting_bars (s : State) : s.releaseWaiting.bars = s.bars := by
  unfold State.releaseWaiting; split <;> simp
@[simp] theorem State.releaseWaiting_node (s : State) : s.releaseWaiting.node = s.node := by
  unfold State.releaseWaiting; split <;> simp
@[simp] theorem State.releaseWaiting_faults (s : State) : s.releaseWaiting.faults = s.faults := by
  unfold State.releaseWaiting; split <;> simp
@[simp] theorem State.releaseWaiting_homes (s : State) : s.releaseWaiting.homes = s.homes := by
  unfold State.releaseWaiting; split <;> simp
@[simp] theorem State.releaseWaiting_inReset (s : State) : s.releaseWaiting.inReset = s.inReset := by
  unfold State.releaseWaiting; split <;> simp
@[simp] theorem State.releaseWaiting_choices (s : State) : s.releaseWaiting.choices = s.choices := by
  unfold State.releaseWaiting; split <;> simp
@[simp] theorem State.releaseWaiting_pending (s : State) : s.releaseWaiting.pending = s.pending := by
  unfold State.releaseWaiting; split <;> simp
@[simp] theorem State.finishAccess_tracker (s : State) (a : Access) :
    (s.finishAccess a).tracker = s.tracker := by
  unfold State.finishAccess; split <;> (simp only []; split <;> simp)
@[simp] theorem State.finishAccess_queue (s : State) (a : Access) :
    (s.finishAccess a).queue = s.queue := by
  unfold State.finishAccess; split <;> (simp only []; split <;> simp)
@[simp] theorem State.finishAccess_bars (s : State) (a : Access) :
    (s.finishAccess a).bars = s.bars := by
  unfold State.finishAccess; split <;> (simp only []; split <;> simp)
@[simp] theorem State.finishAccess_node (s : State) (a : Access) :
    (s.finishAccess a).node = s.node := by
  unfold State.finishAccess; split <;> (simp only []; split <;> simp)
@[simp] theorem State.finishAccess_faults (s : State) (a : Access) :
    (s.finishAccess a).faults = s.faults := by
  unfold State.finishAccess; split <;> (simp only []; split <;> simp)
@[simp] theorem State.finishAccess_homes (s : State) (a : Access) :
    (s.finishAccess a).homes = s.homes := by
  unfold State.finishAccess; split <;> (simp only []; split <;> simp)
@[simp] theorem State.finishAccess_inReset (s : State) (a : Access) :
    (s.finishAccess a).inReset = s.inReset := by
  unfold State.finishAccess; split <;> (simp only []; split <;> simp)
@[simp] theorem State.finishAccess_choices (s : State) (a : Access) :
    (s.finishAccess a).choices = s.choices := by
  unfold State.finishAccess; split <;> (simp only []; split <;> simp)
@[simp] theorem State.finishAccess_pending (s : State) (a : Access) :
    (s.finishAccess a).pending = s.pending := by
  unfold State.finishAccess; split <;> (simp only []; split <;> simp)
@[simp] theorem State.takeCandidate_tracker (s : State) (j : Expansion) (v : Verdict) :
    (s.takeCandidate j v).tracker = s.tracker := by
  unfold State.takeCandidate; split <;> rfl
@[simp] theorem State.takeCandidate_store (s : State) (j : Expansion) (v : Verdict) :
    (s.takeCandidate j v).store = s.store := by
  unfold State.takeCandidate; split <;> rfl
@[simp] theorem State.takeCandidate_expander (s : State) (j : Expansion) (v : Verdict) :
    (s.takeCandidate j v).expander = s.expander := by
  unfold State.takeCandidate; split <;> rfl
@[simp] theorem State.takeCandidate_engine (s : State) (j : Expansion) (v : Verdict) :
    (s.takeCandidate j v).engine = s.engine := by
  unfold State.takeCandidate; split <;> rfl
@[simp] theorem State.takeCandidate_bars (s : State) (j : Expansion) (v : Verdict) :
    (s.takeCandidate j v).bars = s.bars := by
  unfold State.takeCandidate; split <;> rfl
@[simp] theorem State.takeCandidate_node (s : State) (j : Expansion) (v : Verdict) :
    (s.takeCandidate j v).node = s.node := by
  unfold State.takeCandidate; split <;> rfl
@[simp] theorem State.takeCandidate_ring (s : State) (j : Expansion) (v : Verdict) :
    (s.takeCandidate j v).ring = s.ring := by
  unfold State.takeCandidate; split <;> rfl
@[simp] theorem State.takeCandidate_homes (s : State) (j : Expansion) (v : Verdict) :
    (s.takeCandidate j v).homes = s.homes := by
  unfold State.takeCandidate; split <;> rfl
@[simp] theorem State.takeCandidate_inReset (s : State) (j : Expansion) (v : Verdict) :
    (s.takeCandidate j v).inReset = s.inReset := by
  unfold State.takeCandidate; split <;> rfl
@[simp] theorem State.takeCandidate_choices (s : State) (j : Expansion) (v : Verdict) :
    (s.takeCandidate j v).choices = s.choices := by
  unfold State.takeCandidate; split <;> rfl
@[simp] theorem State.takeCandidate_pending (s : State) (j : Expansion) (v : Verdict) :
    (s.takeCandidate j v).pending = s.pending := by
  unfold State.takeCandidate; split <;> rfl

/-! ### Service requests (R34, R179) -/

/-- Everything a request that is taken can do: a READ that is not refused begins its reads; any other operation leaves the
state its own rule gives and is answered. -/
theorem State.takeRequest_cases (s : State) (d : Deferred) :
    (∃ start count, d.op = .read start count ∧ readRefusal s start count d.env.data.length = none
        ∧ s.takeRequest d = s.beginRead start count d)
      ∨ (∃ start count r, d.op = .read start count ∧ readRefusal s start count d.env.data.length = some r
        ∧ s.takeRequest d = s.answer d.ticket d.form d.op d.env (.only r))
      ∨ ((∀ start count, d.op ≠ .read start count)
        ∧ s.takeRequest d = (immediateOp d.op d.env.data s).1.answer d.ticket d.form d.op d.env
            (immediateOp d.op d.env.data s).2) := by
  unfold State.takeRequest
  cases hop : d.op with
  | read start count =>
    cases h : readRefusal s start count d.env.data.length with
    | none => exact Or.inl ⟨start, count, rfl, h, by simp [h]⟩
    | some r => exact Or.inr (Or.inl ⟨start, count, r, rfl, h, by simp [h]⟩)
  | _ => exact Or.inr (Or.inr ⟨by intros; simp, rfl⟩)

/-- Everything a request that arrives can do: nothing while the reset input is active; else it is held, or taken. -/
theorem State.serviceRequest_cases (s : State) (op : ServiceOp) (env : Envelope) :
    (s.inReset = true ∧ s.serviceRequest op env = s)
      ∨ (s.inReset = false ∧ s.mustDefer = true
        ∧ s.serviceRequest op env = { s with ring := { s.requestEntered op env with deferred := s.ring.deferred ++
            [{ op := op, env := env, ticket := s.ring.nextTicket, form := .clean }] } })
      ∨ (s.inReset = false ∧ s.mustDefer = false
        ∧ s.serviceRequest op env = { s with ring := s.requestEntered op env }.takeRequest
            { op := op, env := env, ticket := s.ring.nextTicket, form := .clean }) := by
  by_cases hr : s.inReset = true
  · exact Or.inl ⟨hr, by simp [State.serviceRequest, hr]⟩
  · have hr' : s.inReset = false := by simpa using hr
    have h : s.serviceRequest op env = ({ s with ring := s.ring.cleanSeen }.enterFrame (requestChars s.ring op env)).takeOrDefer
        { op := op, env := env, ticket := s.ring.nextTicket, form := .clean } := by
      simp [State.serviceRequest, hr']
    have hd : ({ s with ring := s.ring.cleanSeen }.enterFrame (requestChars s.ring op env)).mustDefer = s.mustDefer := rfl
    right
    by_cases hm : s.mustDefer = true
    · refine Or.inl ⟨hr', hm, ?_⟩
      rw [h, State.takeOrDefer, if_pos (hd.trans hm)]
      rfl
    · have hm' : s.mustDefer = false := by simpa using hm
      refine Or.inr ⟨hr', hm', ?_⟩
      rw [h, State.takeOrDefer, if_neg (by rw [hd, hm']; simp)]
      rfl

/-- A request taken as it arrives, other than a READ, leaves the state its operation's own rule gives, with the reply in the
ring port. -/
theorem State.serviceRequest_taken {s : State} (h : s.takesService) {op : ServiceOp} {env : Envelope}
    (hop : ∀ start count, op ≠ .read start count) :
    s.serviceRequest op env
      = (immediateOp op env.data { s with ring := s.requestEntered op env }).1.answer s.ring.nextTicket .clean op env
          (immediateOp op env.data { s with ring := s.requestEntered op env }).2 := by
  obtain ⟨h1, h2⟩ := h
  rcases s.serviceRequest_cases op env with ⟨h3, -⟩ | ⟨-, h3, -⟩ | ⟨-, -, h3⟩
  · simp [h1] at h3
  · simp [h2] at h3
  · rw [h3]
    rcases State.takeRequest_cases { s with ring := s.requestEntered op env }
        { op := op, env := env, ticket := s.ring.nextTicket, form := .clean } with ⟨a, c, h4, -⟩ | ⟨a, c, r, h4, -⟩ | ⟨-, h4⟩
    · exact absurd h4 (hop a c)
    · exact absurd h4 (hop a c)
    · exact h4

/-- A property that ring-port changes, each operation's own rule and the beginning of a READ keep is kept by every service
request that is taken. -/
theorem State.takeRequest_keeps {P : State → Prop} (ring : ∀ s r, P s → P { s with ring := r })
    (own : ∀ op data s, P s → P (immediateOp op data s).1) (read : ∀ s start count d, P s → P (s.beginRead start count d))
    {s : State} (h : P s) (d : Deferred) : P (s.takeRequest d) := by
  rcases s.takeRequest_cases d with ⟨a, c, -, -, e⟩ | ⟨a, c, r, -, -, e⟩ | ⟨-, e⟩ <;> rw [e]
  · exact read _ _ _ _ h
  · exact ring _ _ h
  · exact ring _ _ (own _ _ _ h)

/-- The same of every service request that arrives. -/
theorem State.serviceRequest_keeps {P : State → Prop} (ring : ∀ s r, P s → P { s with ring := r })
    (own : ∀ op data s, P s → P (immediateOp op data s).1) (read : ∀ s start count d, P s → P (s.beginRead start count d))
    {s : State} (h : P s) (op : ServiceOp) (env : Envelope) : P (s.serviceRequest op env) := by
  rcases s.serviceRequest_cases op env with ⟨-, e⟩ | ⟨-, -, e⟩ | ⟨-, -, e⟩ <;> rw [e]
  · exact h
  · exact ring _ _ h
  · exact State.takeRequest_keeps ring own read (ring _ _ h) _

/-- A service command is its request, with the levels of the home inputs it samples (R179). -/
theorem exec_request {i : Instr} {op : ServiceOp} {env : Envelope} (h : i.request = some (op, env)) (s : State) :
    exec i s = .next ({ s with homes := i.homesSeen s.homes }.serviceRequest op env) := by
  cases i <;> simp only [Instr.request, Option.some.injEq, Prod.mk.injEq, reduceCtorEq] at h <;>
    (obtain ⟨rfl, rfl⟩ := h; rfl)


/-! ### Increments (R1 to R17) -/

/-- Every window crossing of an increment keeps what one crossing and a hold request keep. -/
theorem takeCrossings_keeps {P : State → Prop} (cross : ∀ s c, P s → P (takeCrossing s c)) {s : State} (h : P s)
    (cs : List Crossing) : P (takeCrossings s cs).1 := by
  induction cs generalizing s with
  | nil => exact h
  | cons c rest ih => exact ih (cross _ _ h)

/-- The same with the hold request of a guard among them. -/
theorem takeIncrementCrossings_keeps {P : State → Prop} (cross : ∀ s c, P s → P (takeCrossing s c))
    (hold : ∀ s d, P s → P (s.requestHold d)) (seed : Nat) {s : State} (h : P s) (cs : List Crossing) :
    P (takeIncrementCrossings seed s cs).1 := by
  have all := fun cs => takeCrossings_keeps cross h cs
  simp only [takeIncrementCrossings]
  split
  · exact all _
  · split
    · exact all _
    · split <;> exact hold _ _ (all _)

/-- An increment keeps what each of its parts keeps. -/
theorem State.takeIncrement_keeps {P : State → Prop} (tracker : ∀ s t, P s → P { s with tracker := t })
    (choices : ∀ s n, P s → P { s with choices := n }) (disturbed : ∀ s a, P s → P (s.disturbed a))
    (cross : ∀ s c, P s → P (takeCrossing s c)) (hold : ∀ s d, P s → P (s.requestHold d))
    (slip : ∀ s v, P s → P (s.indexSlip v)) (boundary : ∀ s f t, P s → P (s.boundary f t)) {s : State} (h : P s)
    (forward level : Bool) : P (s.takeIncrement forward level) := by
  have ite : ∀ {c : Prop} [Decidable c] {a b : State}, P a → P b → P (if c then a else b) := by
    intro c _ a b ha hb
    split
    · exact ha
    · exact hb
  unfold State.takeIncrement
  extract_lets seed t index correction slipped moved isBoundary inCatchup place angle crossings indexed s1 s2 crossed s3 s4
    s5 s6 s7
  have h1 : P s1 := choices { s with tracker := moved } _ (tracker _ _ h)
  have h2 : P s2 := ite (disturbed _ _ h1) h1
  have hc : P crossed.1 := takeIncrementCrossings_keeps cross hold seed h2 crossings
  have h3 : P s3 := ite (slip _ _ hc) hc
  have h4 : P s4 := ite (disturbed _ _ h3) h3
  have h5 : P s5 := tracker _ _ h4
  have h6 : P s6 := ite (boundary _ _ _ h5) h5
  have h7 : P s7 := ite (hold _ _ h6) h6
  exact ite (disturbed _ _ h7) h7

/-- The tracker after an increment: its ordinary part, then the index correction, slip or validation it carries. -/
theorem State.takeIncrement_tracker (s : State) (forward level : Bool) :
    (s.takeIncrement forward level).tracker
      = (match correctionAt s.tracker forward (level && !s.tracker.indexWas) with
        | some c =>
          let t := (s.tracker.advance forward (level && !s.tracker.indexWas) level).corrected forward c
          if forward then t.capture else t
        | none =>
          let t := s.tracker.advance forward (level && !s.tracker.indexWas) level
          if (level && !s.tracker.indexWas) = true then t.validate forward else t) := by
  have ite : ∀ {c : Prop} [Decidable c] {a b : State} {t : Tracker}, a.tracker = t → b.tracker = t →
      (if c then a else b).tracker = t := by
    intro c _ a b t ha hb
    split
    · exact ha
    · exact hb
  unfold State.takeIncrement
  extract_lets seed t index correction slipped moved isBoundary inCatchup place angle crossings indexed s1 s2 crossed s3 s4
    s5 s6 s7
  have h5 : s5.tracker = indexed := rfl
  have h6 : s6.tracker = indexed := ite (by simp [h5]) h5
  have h7 : s7.tracker = indexed := ite (by simp [h6]) h6
  show _ = indexed
  exact ite (by rw [State.disturbed_tracker, h7]) h7

/-- Everything a missing index can do (R12, R138, R166): the report and the hand-over, then, but in ARMED, the boundary of its
increment when that wrapped the counter, and the angle invalid. -/
theorem State.indexMissing_eq (s : State) :
    s.indexMissing =
      (let handed := (s.reportNode .indexMissing s.currentTag s.tracker.angle).requestHold true
       let ended := if s.tracker.boundaryOwed ∧ s.node.state ≠ .armed then handed.boundary true s.tracker.tMeas else handed
       { ended with tracker := { s.tracker with angleValid := false, sinceIndex := 0, recross := 0 } }) := rfl

/-- The tracker after a missing index (R12). -/
@[simp] theorem State.indexMissing_tracker (s : State) :
    s.indexMissing.tracker = { s.tracker with angleValid := false, sinceIndex := 0, recross := 0 } := rfl

@[simp] theorem State.indexMissing_store (s : State) : s.indexMissing.store = s.store := by
  rw [State.indexMissing_eq]; simp only []; split <;> simp
@[simp] theorem State.indexMissing_expander (s : State) : s.indexMissing.expander = s.expander := by
  rw [State.indexMissing_eq]; simp only []; split <;> simp
@[simp] theorem State.indexMissing_engine (s : State) : s.indexMissing.engine = s.engine := by
  rw [State.indexMissing_eq]; simp only []; split <;> simp
@[simp] theorem State.indexMissing_ring (s : State) : s.indexMissing.ring = s.ring := by
  rw [State.indexMissing_eq]; simp only []; split <;> simp
@[simp] theorem State.indexMissing_homes (s : State) : s.indexMissing.homes = s.homes := by
  rw [State.indexMissing_eq]; simp only []; split <;> simp
@[simp] theorem State.indexMissing_inReset (s : State) : s.indexMissing.inReset = s.inReset := by
  rw [State.indexMissing_eq]; simp only []; split <;> simp
@[simp] theorem State.indexMissing_choices (s : State) : s.indexMissing.choices = s.choices := by
  rw [State.indexMissing_eq]; simp only []; split <;> simp
@[simp] theorem State.indexMissing_pending (s : State) : s.indexMissing.pending = s.pending := by
  rw [State.indexMissing_eq]; simp only []; split <;> simp

/-- A missing index keeps what its parts keep, and so does its settlement before the next increment. -/
theorem State.settleIndex_keeps {P : State → Prop} (tracker : ∀ s t, P s → P { s with tracker := t })
    (report : ∀ s tag angle, P s → P (s.reportNode .indexMissing tag angle)) (hold : ∀ s d, P s → P (s.requestHold d))
    (boundary : ∀ s f t, P s → P (s.boundary f t)) {s : State} (h : P s) : P s.indexMissing ∧ P s.settleIndex := by
  have handed := hold _ true (report s s.currentTag s.tracker.angle h)
  have missing : P s.indexMissing := by
    rw [State.indexMissing_eq]
    refine tracker _ _ ?_
    split
    · exact boundary _ _ _ handed
    · exact handed
  refine ⟨missing, ?_⟩
  unfold State.settleIndex
  split
  · exact missing
  · exact h

/-! ### The catch-up (R145, R146) -/

/-- The evaluation of a catch-up's completion makes the node RUNNING, or leaves the state. -/
theorem State.evaluateCatchup_cases (s : State) :
    s.evaluateCatchup = s
      ∨ (s.node.state = .catchup ∧ catchupReached s = true
        ∧ s.evaluateCatchup = { s with node := { s.node.enter .running with catchup := noTargets } }) := by
  unfold State.evaluateCatchup
  split
  · rename_i h
    exact Or.inr ⟨h.1, h.2, rfl⟩
  · exact Or.inl rfl

/-- The catch-up begins in CATCHUP with a target for each MOTION bar, and its completion is evaluated. -/
theorem State.beginCatchup_eq (s : State) :
    s.beginCatchup = State.evaluateCatchup
      { s with
        node := { s.node.enter .catchup with catchup := Vector.ofFn (catchupTarget s) }
        bars := giveCatchup s (Vector.ofFn (catchupTarget s)) } := by
  unfold State.beginCatchup
  rfl

end Sys2Proof.Machine
end

