-- ==== Sys2Proof/Laws/Service.lean ====
section
/-!
SUPPORT. Everything a service operation can do, one lemma for each: it refuses and leaves the state, or its effect is the one
its rule gives, under the conditions its rule gives.
-/

namespace Sys2Proof.Machine

/-! ### Operand forms -/

theorem inRange_some {lo hi : Nat} {v : Word} {n : Nat} :
    inRange lo hi v = some n ↔ lo ≤ v.toNat ∧ v.toNat ≤ hi ∧ n = v.toNat := by
  unfold inRange
  split
  · rename_i h
    simp [h.1, h.2, eq_comm]
  · rename_i h
    simp only [reduceCtorEq, false_iff, not_and]
    intro h1 h2
    exact absurd ⟨h1, h2⟩ h

theorem inRange_none {lo hi : Nat} {v : Word} : inRange lo hi v = none ↔ v.toNat < lo ∨ hi < v.toNat := by
  unfold inRange
  split
  · rename_i h
    simp only [reduceCtorEq, false_iff]
    omega
  · rename_i h
    simp only [true_iff]
    omega

theorem barOf_some {b : Byte} {n : BarIx} : barOf b = some n ↔ b.toNat = n.val := by
  unfold barOf
  split
  · simp [Fin.ext_iff]
  · rename_i h
    simp only [reduceCtorEq, false_iff]
    omega

theorem barOf_none {b : Byte} : barOf b = none ↔ 16 ≤ b.toNat := by
  unfold barOf
  split
  · simp only [reduceCtorEq, false_iff]
    omega
  · simp only [true_iff]
    omega

theorem classIxOf_some {b : Byte} {c : ClassIx} : classIxOf b = some c ↔ b.toNat = c.val := by
  unfold classIxOf
  split
  · simp [Fin.ext_iff]
  · rename_i h
    simp only [reduceCtorEq, false_iff]
    omega

theorem classIxOf_none {b : Byte} : classIxOf b = none ↔ 4 ≤ b.toNat := by
  unfold classIxOf
  split
  · simp only [reduceCtorEq, false_iff]
    omega
  · simp only [true_iff]
    omega

/-! ### Refusals -/

/-- An operation refused: the state stays and the result is a refusal (R180). -/
def refusedBy (s : State) (r : State × Reply) : Prop := r.1 = s ∧ r.2.result.refuses = true

@[simp] theorem refusedBy_only (s : State) (r : Result) : refusedBy s (s, .only r) ↔ r.refuses = true := by
  simp [refusedBy, Reply.only]

@[simp] theorem refusedBy_notReady (s : State) (r : Reason) : refusedBy s (s, .notReady r) := by
  simp [refusedBy, Reply.notReady, Result.refuses]

/-! ### Node parameters -/

theorem opSetRowCount_cases (bank : Bank) (v : Word) (s : State) :
    refusedBy s (opSetRowCount bank v s)
      ∨ (∃ n, inRange 1 4096 v = some n ∧ opSetRowCount bank v s = (match bank with
        | .a => ({ s with expander := { s.expander with rowCountA := n } }, .only .done)
        | .b => ({ s with expander := { s.expander with rowCountB := n } }, .only .done))) := by
  unfold opSetRowCount
  cases h : inRange 1 4096 v with
  | none => simp [State.reply, Result.refuses]
  | some n => exact Or.inr ⟨n, rfl, by cases bank <;> rfl⟩

theorem opSetMargin_cases (v : Word) (s : State) :
    refusedBy s (opSetMargin v s)
      ∨ (∃ n, inRange 0 64 v = some n ∧ opSetMargin v s = ({ s with node := { s.node with margin := n } }, .only .done)) := by
  unfold opSetMargin
  cases h : inRange 0 64 v with
  | none => simp [State.reply, Result.refuses]
  | some n => exact Or.inr ⟨n, rfl, rfl⟩

theorem opSetStandstillTimeout_cases (v : Word) (s : State) :
    refusedBy s (opSetStandstillTimeout v s)
      ∨ (∃ n, inRange 2 255 v = some n
        ∧ opSetStandstillTimeout v s = ({ s with tracker := { s.tracker with timeout := n } }, .only .done)) := by
  unfold opSetStandstillTimeout
  cases h : inRange 2 255 v with
  | none => simp [State.reply, Result.refuses]
  | some n => exact Or.inr ⟨n, rfl, rfl⟩

theorem opSetWindow_cases (w : WindowParam) (v : Word) (s : State) :
    refusedBy s (opSetWindow w v s)
      ∨ (∃ n, inRange (windowRange w).1 (windowRange w).2 v = some n ∧ s.node.state = .offline
        ∧ opSetWindow w v s = ({ s with node := s.node.setWindow w n }, .only .done)) := by
  unfold opSetWindow
  cases h : inRange (windowRange w).1 (windowRange w).2 v with
  | none => simp [State.reply, Result.refuses]
  | some n =>
    by_cases hs : s.node.state = .offline
    · exact Or.inr ⟨n, rfl, hs, by simp [hs, State.reply]⟩
    · simp [hs, State.reply, Result.refuses]

theorem opSetGuardEnable_cases (v : Word) (s : State) :
    refusedBy s (opSetGuardEnable v s)
      ∨ (v = 1 ∧ opSetGuardEnable v s = ({ s with node := { s.node with guardEnable := true } }, .only .done))
      ∨ (v = 0 ∧ s.node.guardEnable = false ∧ opSetGuardEnable v s = (s, .only .done)) := by
  unfold opSetGuardEnable
  by_cases h0 : v = 0
  · have hf : flagOf v = some false := by rw [flagOf, if_pos h0]
    simp only [hf]
    cases hg : s.node.guardEnable <;> simp [h0, State.reply, Result.refuses]
  · by_cases h1 : v = 1
    · have hf : flagOf v = some true := by rw [flagOf, if_neg h0, if_pos h1]
      simp only [hf]
      simp [h1, State.reply]
    · have hf : flagOf v = none := by rw [flagOf, if_neg h0, if_neg h1]
      simp [hf, State.reply, Result.refuses]

theorem opSetDiagMode_cases (v : Word) (s : State) :
    refusedBy s (opSetDiagMode v s)
      ∨ (v = 1 ∧ s.node.state = .offline
        ∧ opSetDiagMode v s = ({ s with store := { s.store with diagMode := true } }, .only .done))
      ∨ (v = 0 ∧ opSetDiagMode v s = ({ s with store := { s.store with diagMode := false } }, .only .done)) := by
  unfold opSetDiagMode
  by_cases h0 : v = 0
  · have hf : flagOf v = some false := by rw [flagOf, if_pos h0]
    simp only [hf]
    simp [h0, State.reply]
  · by_cases h1 : v = 1
    · have hf : flagOf v = some true := by rw [flagOf, if_neg h0, if_pos h1]
      simp only [hf]
      by_cases hs : s.node.state = .offline <;> simp [h1, hs, State.reply, Result.refuses]
    · have hf : flagOf v = none := by rw [flagOf, if_neg h0, if_neg h1]
      simp [hf, State.reply, Result.refuses]

theorem opSetDiagValue_cases (v : Word) (s : State) :
    refusedBy s (opSetDiagValue v s)
      ∨ (∃ n, inRange 0 63 v = some n
        ∧ opSetDiagValue v s = ({ s with store := { s.store with diagValue := BitVec.ofNat 6 n } }, .only .done)) := by
  unfold opSetDiagValue
  cases h : inRange 0 63 v with
  | none => simp [State.reply, Result.refuses]
  | some n => exact Or.inr ⟨n, rfl, rfl⟩

/-! ### Class parameters (R56) -/

theorem classRefusal_refuses {s : State} {c : ClassIx} {r : Result} (h : classRefusal s c = some r) : r.refuses = true := by
  unfold classRefusal at h
  split at h
  · cases h; rfl
  · split at h
    · cases h; rfl
    · split at h
      · cases h; rfl
      · cases h

theorem opSetSpn_cases (cls : Byte) (v : Word) (s : State) :
    refusedBy s (opSetSpn cls v s)
      ∨ (∃ c n, classIxOf cls = some c ∧ inRange 4 64 v = some n ∧ classRefusal s c = none ∧ spnTooLow s c n = false
        ∧ opSetSpn cls v s
          = ({ s with engine := s.engine.setClass c { s.engine.classes[c].outdated with spn := n } }, .only .done)) := by
  unfold opSetSpn
  cases hc : classIxOf cls with
  | none => simp [State.reply, Result.refuses]
  | some c =>
    cases hn : inRange 4 64 v with
    | none => simp [State.reply, Result.refuses]
    | some n =>
      cases hr : classRefusal s c with
      | some r => simp [hr, State.reply, classRefusal_refuses hr]
      | none =>
        cases ht : spnTooLow s c n with
        | true => simp [hr, ht, State.reply, Result.refuses]
        | false => exact Or.inr ⟨c, n, rfl, rfl, hr, ht, by simp [hr, ht, State.reply]⟩

theorem opSetRampLength_cases (cls : Byte) (v : Word) (s : State) :
    refusedBy s (opSetRampLength cls v s)
      ∨ (∃ c n, classIxOf cls = some c ∧ inRange 1 32 v = some n ∧ classRefusal s c = none
        ∧ opSetRampLength cls v s
          = ({ s with engine := s.engine.setClass c { s.engine.classes[c].outdated with length := n } }, .only .done)) := by
  unfold opSetRampLength
  cases hc : classIxOf cls with
  | none => simp [State.reply, Result.refuses]
  | some c =>
    cases hn : inRange 1 32 v with
    | none => simp [State.reply, Result.refuses]
    | some n =>
      cases hr : classRefusal s c with
      | some r => simp [hr, State.reply, classRefusal_refuses hr]
      | none => exact Or.inr ⟨c, n, rfl, rfl, hr, by simp [hr, State.reply]⟩

/-! ### Bar parameters -/

theorem opSetMode_cases (bar : Byte) (v : Word) (s : State) :
    refusedBy s (opSetMode bar v s)
      ∨ (∃ n m, barOf bar = some n ∧ modeOf v = some m ∧ s.node.state = .offline ∧ s.bars[n].busy = false
        ∧ opSetMode bar v s = (s.setBar n (s.bars[n].enterMode m), .only .done)) := by
  unfold opSetMode
  cases hb : barOf bar with
  | none => simp [State.reply, Result.refuses]
  | some n =>
    cases hm : modeOf v with
    | none => simp [State.reply, Result.refuses]
    | some m =>
      by_cases hs : s.node.state = .offline
      · cases hy : s.bars[n].busy with
        | true =>
          refine Or.inl ?_
          simp only [hs, hy]
          simp [State.reply, Result.refuses]
        | false =>
          refine Or.inr ⟨n, m, rfl, rfl, hs, hy, ?_⟩
          simp only [hs, hy]
          simp [State.reply]
      · simp [hs, State.reply, Result.refuses]

theorem opSetClass_cases (bar : Byte) (v : Word) (s : State) :
    refusedBy s (opSetClass bar v s)
      ∨ (∃ n c, barOf bar = some n ∧ quarterOf v = some c ∧ s.node.state = .offline ∧ s.bars[n].busy = false
        ∧ ¬(s.bars[n].referenced = true ∧ s.bars[n].limit * s.engine.classes[c].spn < s.bars[n].pos)
        ∧ opSetClass bar v s = (s.setBar n { s.bars[n] with cls := c }, .only .done)) := by
  unfold opSetClass
  cases hb : barOf bar with
  | none => simp [State.reply, Result.refuses]
  | some n =>
    cases hc : quarterOf v with
    | none => simp [State.reply, Result.refuses]
    | some c =>
      by_cases hs : s.node.state = .offline
      · cases hy : s.bars[n].busy with
        | true =>
          refine Or.inl ?_
          simp only [hs, hy]
          simp [State.reply, Result.refuses]
        | false =>
          by_cases hp : s.bars[n].referenced = true ∧ s.bars[n].limit * s.engine.classes[c].spn < s.bars[n].pos
          · refine Or.inl ?_
            simp only [hs, hy, if_pos hp]
            simp [State.reply, Result.refuses]
          · refine Or.inr ⟨n, c, rfl, rfl, hs, hy, hp, ?_⟩
            simp only [hs, hy, if_neg hp]
            simp [State.reply]
      · simp [hs, State.reply, Result.refuses]

theorem opSetLapSet_cases (bar : Byte) (v : Word) (s : State) :
    refusedBy s (opSetLapSet bar v s)
      ∨ (∃ n l, barOf bar = some n ∧ quarterOf v = some l ∧ s.node.state = .offline
        ∧ opSetLapSet bar v s = (s.setBar n { s.bars[n] with lapSet := l }, .only .done)) := by
  unfold opSetLapSet
  cases hb : barOf bar with
  | none => simp [State.reply, Result.refuses]
  | some n =>
    cases hc : quarterOf v with
    | none => simp [State.reply, Result.refuses]
    | some l =>
      by_cases hs : s.node.state = .offline
      · exact Or.inr ⟨n, l, rfl, rfl, hs, by simp only [hs]; simp [State.reply]⟩
      · simp [hs, State.reply, Result.refuses]

theorem opSetTravelLimit_cases (bar : Byte) (v : Word) (s : State) :
    refusedBy s (opSetTravelLimit bar v s)
      ∨ (∃ n l, barOf bar = some n ∧ inRange 0 63 v = some l ∧ s.node.state = .offline ∧ s.bars[n].busy = false
        ∧ ¬(s.bars[n].referenced = true ∧ l * (s.classOf s.bars[n]).spn < s.bars[n].pos)
        ∧ opSetTravelLimit bar v s = (s.setBar n { s.bars[n] with limit := l }, .only .done)) := by
  unfold opSetTravelLimit
  cases hb : barOf bar with
  | none => simp [State.reply, Result.refuses]
  | some n =>
    cases hc : inRange 0 63 v with
    | none => simp [State.reply, Result.refuses]
    | some l =>
      by_cases hs : s.node.state = .offline
      · cases hy : s.bars[n].busy with
        | true =>
          refine Or.inl ?_
          simp only [hs, hy]
          simp [State.reply, Result.refuses]
        | false =>
          by_cases hp : s.bars[n].referenced = true ∧ l * (s.classOf s.bars[n]).spn < s.bars[n].pos
          · refine Or.inl ?_
            simp only [hs, hy, if_pos hp]
            simp [State.reply, Result.refuses]
          · refine Or.inr ⟨n, l, rfl, rfl, hs, hy, hp, ?_⟩
            simp only [hs, hy, if_neg hp]
            simp [State.reply]
      · simp [hs, State.reply, Result.refuses]

theorem opSetTrim_cases (bar : Byte) (v : Word) (s : State) :
    refusedBy s (opSetTrim bar v s)
      ∨ (∃ n t, barOf bar = some n ∧ trimOf v = some t
        ∧ opSetTrim bar v s = (s.setBar n { s.bars[n] with
            pendingTrim := t, activeTrim := if s.node.state = .offline then t else s.bars[n].activeTrim }, .only .done)) := by
  unfold opSetTrim
  cases hb : barOf bar with
  | none => simp [State.reply, Result.refuses]
  | some n =>
    cases ht : trimOf v with
    | none => simp [State.reply, Result.refuses]
    | some t => exact Or.inr ⟨n, t, rfl, rfl, rfl⟩

theorem opSetHomePosition_cases (bar : Byte) (v : Word) (s : State) :
    refusedBy s (opSetHomePosition bar v s)
      ∨ (∃ n p, barOf bar = some n ∧ inRange 0 4032 v = some p
        ∧ opSetHomePosition bar v s = (s.setBar n { s.bars[n] with homePos := p }, .only .done)) := by
  unfold opSetHomePosition
  cases hb : barOf bar with
  | none => simp [State.reply, Result.refuses]
  | some n =>
    cases ht : inRange 0 4032 v with
    | none => simp [State.reply, Result.refuses]
    | some p => exact Or.inr ⟨n, p, rfl, rfl, rfl⟩

theorem opSetHomePolarity_cases (bar : Byte) (v : Word) (s : State) :
    refusedBy s (opSetHomePolarity bar v s)
      ∨ (∃ n p, barOf bar = some n ∧ polarityOf v = some p
        ∧ opSetHomePolarity bar v s = (s.setBar n { s.bars[n] with homePol := p }, .only .done)) := by
  unfold opSetHomePolarity
  cases hb : barOf bar with
  | none => simp [State.reply, Result.refuses]
  | some n =>
    cases ht : polarityOf v with
    | none => simp [State.reply, Result.refuses]
    | some p => exact Or.inr ⟨n, p, rfl, rfl, rfl⟩

/-! ### Reading -/

theorem opGetParam_cases (identity index : Byte) (s : State) :
    refusedBy s (opGetParam identity index s)
      ∨ (∃ v, paramValue s identity index = some v ∧ opGetParam identity index s = (s, { result := .done, value := some v })) := by
  unfold opGetParam
  cases h : paramValue s identity index with
  | none => simp [State.reply, Result.refuses]
  | some v => exact Or.inr ⟨v, rfl, rfl⟩

theorem opGetFaults_state (count : Nat) (s : State) : (opGetFaults count s).1 = s := by
  unfold opGetFaults
  split
  · rfl
  · split <;> rfl

theorem opGetStatus_state (part bar : Byte) (count : Nat) (s : State) : (opGetStatus part bar count s).1 = s := by
  unfold opGetStatus
  split
  · rfl
  · split <;> rfl

/-! ### Clearing (R169) -/

theorem opClearFault_cases (target bar : Byte) (s : State) :
    refusedBy s (opClearFault target bar s)
      ∨ (target = 0 ∧ opClearFault target bar s = ({ s with faults := { s.faults with node := none } }, .only .done))
      ∨ (∃ n, target = 1 ∧ barOf bar = some n
        ∧ opClearFault target bar s = ({ s with faults := { s.faults with bars := s.faults.bars.set n none } }, .only .done))
      ∨ (target = 2 ∧ opClearFault target bar s = ({ s with store := s.store.cleared }, .only .done))
      ∨ (target = 3 ∧ opClearFault target bar s = ({ s with faults := .initial, store := s.store.cleared }, .only .done)) := by
  unfold opClearFault
  by_cases h0 : target = 0
  · simp [h0]
  · by_cases h1 : target = 1
    · cases hb : barOf bar with
      | none => simp [h1, Result.refuses]
      | some n => exact Or.inr (Or.inr (Or.inl ⟨n, h1, rfl, by simp [h1]⟩))
    · by_cases h2 : target = 2
      · simp [h2]
      · by_cases h3 : target = 3
        · simp [h3]
        · rw [if_neg h0, if_neg h1, if_neg h2, if_neg h3]
          simp [Result.refuses]

/-! ### Commits, starting and stopping -/

theorem opCommitClass_cases (cls : Byte) (s : State) :
    refusedBy s (opCommitClass cls s)
      ∨ (∃ c, classIxOf cls = some c ∧ (s.node.state = .offline ∨ s.node.state = .armed) ∧ s.engine.commit = none
        ∧ s.store.state = .ready ∧ opCommitClass cls s = (s.beginCommit c, .only .started)) := by
  unfold opCommitClass
  cases hc : classIxOf cls with
  | none => simp [Result.refuses]
  | some c =>
    by_cases hs : s.node.state ≠ .offline ∧ s.node.state ≠ .armed
    · simp [hs, Result.refuses]
    · cases hm : s.engine.commit with
      | some j => simp [hs, Result.refuses]
      | none =>
        by_cases hr : s.store.state = .clearing
        · simp [hs, hr, Result.refuses]
        · refine Or.inr ⟨c, rfl, by simpa [or_iff_not_imp_left] using hs, rfl, ?_, by simp [hs, hr]⟩
          cases h : s.store.state
          · exact absurd h hr
          · rfl

theorem opArm_cases (tag : Word) (s : State) :
    refusedBy s (opArm tag s)
      ∨ (s.node.state = .offline ∧ s.store.state ≠ .clearing ∧ anyMotionBar s (fun b => b.motion.isMoving) = false
        ∧ notReadyReason s = none ∧ opArm tag s = (s.armed tag, .only .done)) := by
  unfold opArm
  by_cases hs : s.node.state = .offline
  · by_cases hr : s.store.state = .clearing
    · simp [hs, hr, Result.refuses]
    · cases hm : anyMotionBar s (fun b => b.motion.isMoving) with
      | true => simp [hs, hr, Result.refuses]
      | false =>
        cases hn : notReadyReason s with
        | some r => simp [hs, hr]
        | none => exact Or.inr ⟨hs, hr, rfl, rfl, by simp [hs, hr]⟩
  · simp [hs, Result.refuses]

theorem opResume_cases (s : State) :
    refusedBy s (opResume s)
      ∨ (s.node.state = .hold ∧ s.node.desync = false ∧ s.tracker.dir = .stopped
        ∧ opResume s = (s.beginCatchup, .only .started)) := by
  unfold opResume
  by_cases hs : s.node.state = .hold
  · cases hd : s.node.desync with
    | true => simp [hs]
    | false =>
      by_cases hr : s.tracker.dir = .stopped
      · exact Or.inr ⟨hs, rfl, hr, by simp [hs, hr]⟩
      · simp [hs, hr]
  · simp [hs, Result.refuses]

theorem opRestart_cases (s : State) :
    refusedBy s (opRestart s)
      ∨ (anyBar s.bars Bar.busy = false ∧ s.engine.commit = none ∧ opRestart s = (s.restarted, .only .done)) := by
  unfold opRestart
  cases hb : anyBar s.bars Bar.busy with
  | true => simp [Result.refuses]
  | false =>
    cases hc : s.engine.commit with
    | some j => simp [Result.refuses]
    | none => simp

/-! ### JOG and REFERENCE -/

theorem opJog_cases (bar : Byte) (v : Word) (s : State) :
    refusedBy s (opJog bar v s)
      ∨ (∃ n steps ramp, barOf bar = some n ∧ stepsOf v = some steps ∧ s.bars[n].mode = .jog ∧ s.bars[n].busy = false
        ∧ s.rampOf s.bars[n] = some ramp
        ∧ opJog bar v s = if s.bars[n].referenced then jogReferenced s n ramp steps else jogUnreferenced s n ramp steps) := by
  unfold opJog
  cases hb : barOf bar with
  | none => simp [Result.refuses]
  | some n =>
    cases ht : stepsOf v with
    | none => simp [Result.refuses]
    | some steps =>
      by_cases hm : s.bars[n].mode = .jog
      · cases hy : s.bars[n].busy with
        | true =>
          refine Or.inl ?_
          simp only [hm, hy]
          simp [Result.refuses]
        | false =>
          cases hr : s.rampOf s.bars[n] with
          | none =>
            refine Or.inl ?_
            simp only [hm, hy, hr]
            simp [Result.refuses]
          | some ramp =>
            refine Or.inr ⟨n, steps, ramp, rfl, rfl, hm, hy, hr, ?_⟩
            simp only [hm, hy, hr]
            simp
      · refine Or.inl ?_
        simp only [ne_eq, hm, not_false_eq_true, if_true]
        simp [Result.refuses]

theorem opReference_cases (bar : Byte) (s : State) :
    refusedBy s (opReference bar s)
      ∨ (∃ n, barOf bar = some n ∧ s.bars[n].mode = .jog ∧ s.bars[n].busy = false ∧ (s.classOf s.bars[n]).state = .valid
        ∧ opReference bar s
          = (s.setBar n (s.bars[n].startSearch ((s.rampOf s.bars[n]).getD []) (s.homeLevel n)), .only .started)) := by
  unfold opReference
  cases hb : barOf bar with
  | none => simp [Result.refuses]
  | some n =>
    by_cases hm : s.bars[n].mode = .jog
    · cases hy : s.bars[n].busy with
      | true =>
        refine Or.inl ?_
        simp only [hm, hy]
        simp [Result.refuses]
      | false =>
        by_cases hv : (s.classOf s.bars[n]).state = .valid
        · refine Or.inr ⟨n, rfl, hm, hy, hv, ?_⟩
          simp only [hm, hy, hv]
          simp
        · refine Or.inl ?_
          simp only [ne_eq, hm, hy, hv]
          simp [Result.refuses]
    · refine Or.inl ?_
      simp only [ne_eq, hm, not_false_eq_true, if_true]
      simp [Result.refuses]

/-! ### LOAD -/

theorem opLoad_cases (start : BitVec 24) (count : Byte) (data : List Word) (s : State) :
    refusedBy s (opLoad start count data s)
      ∨ (loadResult s start count data.length = .done
        ∧ opLoad start count data s
          = ({ s with store := { s.store with staging := stagedWords start.toNat data } }.present .service, .only .done)) := by
  unfold opLoad
  by_cases h : loadResult s start count data.length = .done
  · exact Or.inr ⟨h, by simp [h]⟩
  · refine Or.inl ?_
    simp only [h, if_false, refusedBy_only]
    unfold loadResult at h ⊢
    split
    · rfl
    · split
      · rfl
      · split
        · rfl
        · simp_all

/-! ### The operation a request asks for -/

@[simp] theorem immediateOp_getParam (identity : Byte) (index : Byte) (s : State) :
    immediateOp (.getParam identity index) [] s = opGetParam identity index s := rfl
@[simp] theorem immediateOp_setRowCount (bank : Bank) (v : Word) (s : State) :
    immediateOp (.setRowCount bank v) [] s = opSetRowCount bank v s := rfl
@[simp] theorem immediateOp_setMargin (v : Word) (s : State) :
    immediateOp (.setMargin v) [] s = opSetMargin v s := rfl
@[simp] theorem immediateOp_setStandstillTimeout (v : Word) (s : State) :
    immediateOp (.setStandstillTimeout v) [] s = opSetStandstillTimeout v s := rfl
@[simp] theorem immediateOp_setWindow (w : WindowParam) (v : Word) (s : State) :
    immediateOp (.setWindow w v) [] s = opSetWindow w v s := rfl
@[simp] theorem immediateOp_setGuardEnable (v : Word) (s : State) :
    immediateOp (.setGuardEnable v) [] s = opSetGuardEnable v s := rfl
@[simp] theorem immediateOp_setDiagnosticCheckMode (v : Word) (s : State) :
    immediateOp (.setDiagnosticCheckMode v) [] s = opSetDiagMode v s := rfl
@[simp] theorem immediateOp_setDiagnosticCheckValue (v : Word) (s : State) :
    immediateOp (.setDiagnosticCheckValue v) [] s = opSetDiagValue v s := rfl
@[simp] theorem immediateOp_setStepsPerNeedle (c : Byte) (v : Word) (s : State) :
    immediateOp (.setStepsPerNeedle c v) [] s = opSetSpn c v s := rfl
@[simp] theorem immediateOp_setRampLength (c : Byte) (v : Word) (s : State) :
    immediateOp (.setRampLength c v) [] s = opSetRampLength c v s := rfl
@[simp] theorem immediateOp_setMode (b : Byte) (v : Word) (s : State) :
    immediateOp (.setMode b v) [] s = opSetMode b v s := rfl
@[simp] theorem immediateOp_setClass (b : Byte) (v : Word) (s : State) :
    immediateOp (.setClass b v) [] s = opSetClass b v s := rfl
@[simp] theorem immediateOp_setLapSet (b : Byte) (v : Word) (s : State) :
    immediateOp (.setLapSet b v) [] s = opSetLapSet b v s := rfl
@[simp] theorem immediateOp_setTravelLimit (b : Byte) (v : Word) (s : State) :
    immediateOp (.setTravelLimit b v) [] s = opSetTravelLimit b v s := rfl
@[simp] theorem immediateOp_setTrim (b : Byte) (v : Word) (s : State) :
    immediateOp (.setTrim b v) [] s = opSetTrim b v s := rfl
@[simp] theorem immediateOp_setHomePosition (b : Byte) (v : Word) (s : State) :
    immediateOp (.setHomePosition b v) [] s = opSetHomePosition b v s := rfl
@[simp] theorem immediateOp_setHomePolarity (b : Byte) (v : Word) (s : State) :
    immediateOp (.setHomePolarity b v) [] s = opSetHomePolarity b v s := rfl
@[simp] theorem immediateOp_unknownParameter (identity : Byte) (index : Byte) (v : Word) (s : State) :
    immediateOp (.unknownParameter identity index v) [] s = (s, .only .range) := rfl
@[simp] theorem immediateOp_commitClass (c : Byte) (s : State) :
    immediateOp (.commitClass c) [] s = opCommitClass c s := rfl
@[simp] theorem immediateOp_arm (tag : Word) (s : State) :
    immediateOp (.arm tag) [] s = opArm tag s := rfl
@[simp] theorem immediateOp_disarm (s : State) :
    immediateOp .disarm [] s = opDisarm s := rfl
@[simp] theorem immediateOp_resume (s : State) :
    immediateOp .resume [] s = opResume s := rfl
@[simp] theorem immediateOp_restart (s : State) :
    immediateOp .restart [] s = opRestart s := rfl
@[simp] theorem immediateOp_jog (b : Byte) (v : Word) (s : State) :
    immediateOp (.jog b v) [] s = opJog b v s := rfl
@[simp] theorem immediateOp_reference (b : Byte) (s : State) :
    immediateOp (.reference b) [] s = opReference b s := rfl
@[simp] theorem immediateOp_clearFault (t : Byte) (b : Byte) (s : State) :
    immediateOp (.clearFault t b) [] s = opClearFault t b s := rfl
@[simp] theorem immediateOp_load (start : BitVec 24) (count : Byte) (data : List Word) (s : State) :
    immediateOp (.load start count) data s = opLoad start count data s := rfl
@[simp] theorem immediateOp_getStatus (p : Byte) (b : Byte) (data : List Word) (s : State) :
    immediateOp (.getStatus p b) data s = opGetStatus p b data.length s := rfl
@[simp] theorem immediateOp_getFaults (data : List Word) (s : State) :
    immediateOp .getFaults data s = opGetFaults data.length s := rfl
@[simp] theorem immediateOp_unknownOp (op : Byte) (data : List Word) (s : State) :
    immediateOp (.unknownOp op) data s = (s, .only .unknownOp) := rfl

/-- A request that must carry no data words and carries some is answered RANGE (R180). -/
theorem immediateOp_withData {op : ServiceOp} {data : List Word} (h1 : takesNoData op = true) (h2 : data ≠ []) (s : State) :
    immediateOp op data s = (s, .only .range) := by
  unfold immediateOp
  rw [if_pos ⟨h1, h2⟩]

/-! ### Every service operation -/

/-- What no service operation's own rule touches: the ring port, the home inputs, the reset input, the choice counter and the
waiting commands. -/
def sameOutside (s t : State) : Prop :=
  t.ring = s.ring ∧ t.homes = s.homes ∧ t.inReset = s.inReset ∧ t.choices = s.choices ∧ t.pending = s.pending

theorem sameOutside_refl (s : State) : sameOutside s s := ⟨rfl, rfl, rfl, rfl, rfl⟩

theorem immediateOp_sameOutside (op : ServiceOp) (data : List Word) (s : State) :
    sameOutside s (immediateOp op data s).1 := by
  have rf : ∀ {r : State × Reply}, refusedBy s r → sameOutside s r.1 := fun hr => by rw [hr.1]; exact sameOutside_refl s
  unfold immediateOp
  split
  · exact sameOutside_refl s
  · rename_i hcount; clear hcount; cases op <;> simp only []
    case load => rcases opLoad_cases _ _ data s with e | ⟨-, e⟩; exact rf e; rw [e]; simp [sameOutside]
    case read => exact sameOutside_refl s
    case getParam => rcases opGetParam_cases _ _ s with e | ⟨_, -, e⟩; exact rf e; rw [e]; exact sameOutside_refl s
    case setRowCount bank v =>
      rcases opSetRowCount_cases bank v s with e | ⟨_, -, e⟩; exact rf e; rw [e]; cases bank <;> exact sameOutside_refl s
    case setMargin v => rcases opSetMargin_cases v s with e | ⟨_, -, e⟩; exact rf e; rw [e]; exact sameOutside_refl s
    case setStandstillTimeout v =>
      rcases opSetStandstillTimeout_cases v s with e | ⟨_, -, e⟩; exact rf e; rw [e]; exact sameOutside_refl s
    case setWindow w v =>
      rcases opSetWindow_cases w v s with e | ⟨_, -, -, e⟩; exact rf e; rw [e]; exact sameOutside_refl s
    case setGuardEnable v =>
      rcases opSetGuardEnable_cases v s with e | ⟨-, e⟩ | ⟨-, -, e⟩; exact rf e; all_goals (rw [e]; exact sameOutside_refl s)
    case setDiagnosticCheckMode v =>
      rcases opSetDiagMode_cases v s with e | ⟨-, -, e⟩ | ⟨-, e⟩; exact rf e; all_goals (rw [e]; exact sameOutside_refl s)
    case setDiagnosticCheckValue v =>
      rcases opSetDiagValue_cases v s with e | ⟨_, -, e⟩; exact rf e; rw [e]; exact sameOutside_refl s
    case setStepsPerNeedle b v =>
      rcases opSetSpn_cases b v s with e | ⟨_, _, -, -, -, -, e⟩; exact rf e; rw [e]; exact sameOutside_refl s
    case setRampLength b v =>
      rcases opSetRampLength_cases b v s with e | ⟨_, _, -, -, -, e⟩; exact rf e; rw [e]; exact sameOutside_refl s
    case setMode b v =>
      rcases opSetMode_cases b v s with e | ⟨_, _, -, -, -, -, e⟩; exact rf e; rw [e]; exact sameOutside_refl s
    case setClass b v =>
      rcases opSetClass_cases b v s with e | ⟨_, _, -, -, -, -, -, e⟩; exact rf e; rw [e]; exact sameOutside_refl s
    case setLapSet b v =>
      rcases opSetLapSet_cases b v s with e | ⟨_, _, -, -, -, e⟩; exact rf e; rw [e]; exact sameOutside_refl s
    case setTravelLimit b v =>
      rcases opSetTravelLimit_cases b v s with e | ⟨_, _, -, -, -, -, -, e⟩; exact rf e; rw [e]; exact sameOutside_refl s
    case setTrim b v => rcases opSetTrim_cases b v s with e | ⟨_, _, -, -, e⟩; exact rf e; rw [e]; exact sameOutside_refl s
    case setHomePosition b v =>
      rcases opSetHomePosition_cases b v s with e | ⟨_, _, -, -, e⟩; exact rf e; rw [e]; exact sameOutside_refl s
    case setHomePolarity b v =>
      rcases opSetHomePolarity_cases b v s with e | ⟨_, _, -, -, e⟩; exact rf e; rw [e]; exact sameOutside_refl s
    case unknownParameter => exact sameOutside_refl s
    case commitClass c =>
      rcases opCommitClass_cases c s with e | ⟨_, -, -, -, -, e⟩; exact rf e; rw [e]; simp [sameOutside, State.beginCommit]
    case arm tag => rcases opArm_cases tag s with e | ⟨-, -, -, -, e⟩; exact rf e; rw [e]; exact sameOutside_refl s
    case disarm => exact sameOutside_refl s
    case resume =>
      rcases opResume_cases s with e | ⟨-, -, -, e⟩; exact rf e; rw [e, State.beginCatchup_eq]; simp [sameOutside]
    case restart => rcases opRestart_cases s with e | ⟨-, -, e⟩; exact rf e; rw [e]; exact sameOutside_refl s
    case jog b v =>
      rcases opJog_cases b v s with e | ⟨_, _, _, -, -, -, -, -, e⟩; exact rf e; rw [e]
      unfold jogReferenced jogUnreferenced
      simp only []
      repeat' split
      all_goals exact sameOutside_refl s
    case reference b => rcases opReference_cases b s with e | ⟨_, -, -, -, -, e⟩; exact rf e; rw [e]; exact sameOutside_refl s
    case getStatus => rw [opGetStatus_state]; exact sameOutside_refl s
    case getFaults => rw [opGetFaults_state]; exact sameOutside_refl s
    case clearFault t b =>
      rcases opClearFault_cases t b s with e | ⟨-, e⟩ | ⟨_, -, -, e⟩ | ⟨-, e⟩ | ⟨-, e⟩; exact rf e
      all_goals (rw [e]; exact sameOutside_refl s)
    case unknownOp => exact sameOutside_refl s

/-- Everything a service command does that is taken as it arrives, other than READ: its operation's own rule, and the reply
in the ring port (R34, R179). -/
theorem exec_answered {i : Instr} {op : ServiceOp} {env : Envelope} (hreq : i.request = some (op, env)) {s : State}
    (h : s.takesService) (hop : ∀ start count, op ≠ .read start count) :
    exec i s = .next
      { (immediateOp op env.data { s with homes := i.homesSeen s.homes, ring := s.requestEntered op env }).1 with
        ring := s.ringAnswered op env
          (immediateOp op env.data { s with homes := i.homesSeen s.homes, ring := s.requestEntered op env }).2 } := by
  rw [exec_request hreq]
  have h' : ({ s with homes := i.homesSeen s.homes } : State).takesService := h
  rw [State.serviceRequest_taken h' hop]
  have e := immediateOp_sameOutside op env.data
    { { s with homes := i.homesSeen s.homes } with ring := ({ s with homes := i.homesSeen s.homes } : State).requestEntered op env }
  simp only [State.answer, State.release, e.1]
  rfl

/-- The same where the operation's own rule and its reply are known. -/
theorem exec_answered_as {i : Instr} {op : ServiceOp} {env : Envelope} (hreq : i.request = some (op, env)) {s s' : State}
    {rep : Reply} (h : s.takesService) (hop : ∀ start count, op ≠ .read start count)
    (hown : immediateOp op env.data { s with homes := i.homesSeen s.homes, ring := s.requestEntered op env } = (s', rep)) :
    exec i s = .next { s' with ring := s.ringAnswered op env rep } := by
  rw [exec_answered hreq h hop, hown]

/-- A service command that samples no home input. -/
theorem exec_answered_own (i : Instr) (op : ServiceOp) {env : Envelope} (hreq : i.request = some (op, env)) {s : State}
    (h : s.takesService) (hh : i.homesSeen s.homes = s.homes) (hop : ∀ start count, op ≠ .read start count) (s' : State)
    (rep : Reply) (hown : immediateOp op env.data { s with ring := s.requestEntered op env } = (s', rep)) :
    exec i s = .next { s' with ring := s.ringAnswered op env rep } := by
  refine exec_answered_as hreq h hop ?_
  rw [hh]
  exact hown

/-- A service command whose own rule leaves the state. -/
theorem exec_answered_same (i : Instr) (op : ServiceOp) {env : Envelope} (hreq : i.request = some (op, env)) {s : State}
    (h : s.takesService) (hh : i.homesSeen s.homes = s.homes) (hop : ∀ start count, op ≠ .read start count) (rep : Reply)
    (hown : immediateOp op env.data { s with ring := s.requestEntered op env } = ({ s with ring := s.requestEntered op env }, rep)) :
    exec i s = .next (s.answered op env rep) :=
  exec_answered_own i op hreq h hh hop { s with ring := s.requestEntered op env } rep hown

end Sys2Proof.Machine
end

