-- ==== Sys2Proof/Tests/Slice0.lean ====
section
/-!
SUPPORT. Tests: the checks of WellFormed refuse ill-formed commands; the spec's worked examples; and, for each obligation
with hypotheses, a state and operands that meet them together.
-/

namespace Sys2Proof.Tests

open Sys2Proof Sys2Proof.Machine

/-! ### Well-formedness -/

def blankSlot : Slot := ⟨0, 0, 0, 0, 0, 0⟩
def frame (tag : Word) (bank : Byte) (os : List Override) : CourseFrame := ⟨tag, 0, bank, os, Vector.replicate 8 blankSlot⟩
def noArgs : Args := ⟨0, 0, 0, 0, 0, 0⟩
def service (reply : Bool) (dest op : Byte) (data : List Word) : ServiceFrame := ⟨reply, dest, 0, op, noArgs, data, 255⟩
def env (data : List Word) : Envelope := ⟨0, noArgs, data, 255⟩

theorem test_wf_refuses_256_overrides : (Instr.courseFrame (frame 1 0 (List.replicate 256 ⟨0, 0, 0⟩))).wf = false := by decide +kernel
theorem test_wf_takes_255_overrides : (Instr.courseFrame (frame 1 0 (List.replicate 255 ⟨0, 0, 0⟩))).wf = true := by decide +kernel
theorem test_wf_refuses_33_words_passed : (Instr.serviceFramePass (service true 1 1 (List.replicate 33 0))).wf = false := by
  decide
theorem test_wf_refuses_33_words_sent : (Instr.load (env (List.replicate 33 0)) 0 32).wf = false := by decide
theorem test_wf_takes_32_words : (Instr.load (env (List.replicate 32 0)) 0 32).wf = true := by decide
theorem test_wf_refuses_clean_as_corrupt :
    (Instr.corruptFrame (received (cleanFrameOf (serviceBody (service true 1 9 []))))).wf = false := by decide +kernel
theorem test_wf_takes_short_as_corrupt : (Instr.corruptFrame [⟨165, true⟩]).wf = true := by decide
theorem test_wf_refuses_known_op : (Instr.unknownOp (env []) 14).wf = false := by decide
theorem test_wf_takes_op_15 : (Instr.unknownOp (env []) 15).wf = true := by decide
theorem test_wf_refuses_known_parameter : (Instr.unknownParameter (env []) 38 0 0).wf = false := by decide
theorem test_wf_takes_parameter_12 : (Instr.unknownParameter (env []) 12 0 0).wf = true := by decide

/-! ### The spec's worked examples -/

/-- R174: the characters 49 to 57 give the CRC 10673. -/
theorem test_crc_of_digits : crc [49, 50, 51, 52, 53, 54, 55, 56, 57] = 10673 := by decide +kernel

/-- The ramp of chapter 4's worked example, timebase counts. -/
def ramp8 : List Nat := [4000, 2800, 2200, 1800, 1500, 1300, 1150, 1000]

theorem test_move_time_20_steps : moveTime ramp8 20 = 35500 := by decide
theorem test_move_time_120_steps : moveTime ramp8 120 = 135500 := by decide
theorem test_move_time_5_steps : moveTime ramp8 5 = 15800 := by decide
theorem test_move_time_12_steps : moveTime ramp8 12 = 27200 := by decide
theorem test_peak_period_of_5_steps : (List.range 5).map (fun k => periodAfter ramp8 5 (k + 1))
    = [4000, 2800, 2200, 2800, 4000] := by decide

/-- Chapter 6's worked example: the requirement of bar 3 and its ceiling, and the due check's limit period. -/
theorem test_planning_course_41 : requirement 135500 280 = 696858 ∧ ceilingOf 696858 = 861 := by decide
theorem test_ceiling_bounds : ceilingOf 9155 = 65535 ∧ ceilingOf 9156 = 65530 ∧ ceilingOf 16777215 = 35 := by decide
theorem test_due_check_margin : dueCheckPasses 740412 696858 16 = true ∧ dueCheckPasses 740411 696858 16 = false := by decide

/-- R20 to R22: a word written clean and then read with one or two of its bits wrong. -/
theorem test_check_code :
    (readOutcome (storedOf 0x1234)).severity = none
      ∧ (readOutcome (storedOf 0x1234 ^^^ BitVec.twoPow 22 21)).severity = some .correctable
      ∧ (readOutcome (storedOf 0x1234 ^^^ BitVec.twoPow 22 3)).data = 0x1234
      ∧ (readOutcome (storedOf 0x1234 ^^^ BitVec.twoPow 22 3 ^^^ BitVec.twoPow 22 0)).severity = some .uncorrectable := by
  decide +kernel

/-- The memory right after reset is in canonical form. -/
theorem test_reset_memory_wf : State.reset.store.words.wf = true := by decide

/-- No row of the table has bits: no word spells a command. -/
theorem test_decode_none : decodeTableWord 8 0 = none := rfl

/-! ### States for the witnesses -/

/-- A course record with every plan to needle 1. -/
def record (tag : Word) : CourseRecord :=
  { blankRecord with
    tag := tag
    plans := Vector.replicate 16 { source := .table, lead := 1, trail := 1, clamped := false, underlap := 0, overlap := 0 } }

/-- A class that is VALID with a one-entry ramp. -/
def goodClass : DriveClass :=
  { spn := 20, length := 1, state := .valid, ramp := some [500], table := some (moveTable [500] 20), outcome := .done }

/-- Right after reset, with the store READY and the classes VALID. -/
def ready : State :=
  { State.reset with
    store := { Store.initial with state := .ready, clearLeft := 0 }
    engine := { classes := Vector.replicate 4 goodClass, commit := none } }

/-- A node in a state, at an angle, with the given records pending. -/
def at' (st : NodeState) (angle : Nat) (pending : List CourseRecord) : State :=
  { ready with
    tracker := { ready.tracker with angle := angle, angleValid := true }
    node := { Node.initial with state := st, stopReq := st.asserts }
    queue := { history := [record 1], current := some (record 2), pending := pending,
               expected := some (if pending = [] then 3 else 4), dueCheck := none } }

/-- A MOTION bar that is MOVING, upwards, with a step still to come. -/
def movingBar : Bar :=
  { Bar.initial with
    mode := .motion, referenced := true, pos := 1, target := 2,
    motion := .moving { up := true, steps := 2, emitted := 1, ramp := [500], left := 500 } }

/-- A referenced MOTION bar that stands. -/
def standingBar : Bar := { Bar.initial with mode := .motion, referenced := true }

/-- A search in flight. -/
def search (leg : Leg) (pulses : Nat) : Search :=
  { leg := leg, pulses := pulses, period := 500, homePos := 10, polarity := .activeHigh, left := 0 }

def searchingBar (leg : Leg) (pulses : Nat) : Bar := { Bar.initial with mode := .jog, motion := .searching (search leg pulses) }

/-- A store access of a client in progress. -/
def withAccess (s : State) (c : Client) (addr : Nat) (w : Option Stored) : State :=
  { s with store := { s.store with access := some { client := c, addr := addr, write := w, orphan := false } } }

def someReadJob : ReadJob :=
  { start := 0, count := 2, words := [], firstBad := none, op := .read 0 2, env := env [0, 0], ticket := 0, form := .clean }

def someCommit : Commit :=
  { cls := 0, prior := .invalid, spn := 20, length := 2, fetched := [], raised := false, stage := .fetching, shadow := [] }

def someJob (todo : List Fetch) : Expansion := { expansionOf ready 0 (frame 4 0 []) with todo := todo }

/-- A node ARMED with a record pending and none current. -/
def armedNode : State :=
  { at' .armed 1439 [record 2] with
    queue := { history := [record 1], current := none, pending := [record 2], expected := some 3, dueCheck := none } }

/-- Each client's request with an access to make. -/
def asking : State :=
  { ready with
    store := { ready.store with waitExpander := true, waitService := true, waitEngine := true, staging := [(5, 9)] }
    expander := { ready.expander with job := some (someJob [.rowWord 0]) }
    engine := { ready.engine with commit := some someCommit } }

/-! ### One step -/

/-- R7 and R9: a forward index that finds the counter at 4 sets it to 0 with four crossings to withhold; at 5 it is a slip. -/
theorem test_forward_index_tolerance :
    ([3, 4].map fun angle => match exec ((at' .hold angle []).turn true true) (at' .hold angle []) with
      | .next t => some (t.tracker.angle, t.tracker.recross, t.faults.node.map FaultCapture.code)
      | _ => none) = [some (0, 4, none), some (0, 0, some .indexSlip)] := by decide

/-- R12 and R166: a 1449th increment that wraps reports INDEX_MISSING with the record current before its boundary. -/
theorem test_missing_index_at_a_wrap :
    (let s := { at' .running 1439 [record 3] with tracker := { (at' .running 1439 []).tracker with sinceIndex := 1448 } }
     match exec (s.turn true false) s with
      | .next t => match exec .indexMissing t with
        | .next u => some (t.currentTag, u.faults.node.bind FaultCapture.tag, u.currentTag, u.node.state)
        | _ => none
      | _ => none) = some (some 2, some 2, some 3, .hold) := by decide

/-- R138: a node that is ARMED with a record pending stays ARMED at a 1449th increment that wraps. -/
theorem test_missing_index_in_armed :
    (let s := { armedNode with tracker := { armedNode.tracker with sinceIndex := 1448 } }
     match exec (s.turn true false) s with
      | .next t => match exec .indexMissing t with
        | .next u => some (u.node.state, u.queue.pending.length, u.tracker.angleValid, u.faults.node.map FaultCapture.code)
        | _ => none
      | _ => none) = some (.armed, 1, false, some .indexMissing) := by decide

/-- A course frame in the forwarding store, its verdict not known. -/
def heldCourse : State :=
  { ready with ring := { ready.ring with forwarding := [⟨0, cleanFrameOf (courseBody (frame 4 0 [⟨15, 64, 63⟩])), none⟩] } }

/-- R175 and R184: a pin reset cuts a held course frame with one override after its first 11 characters. -/
theorem test_pin_reset_cuts_a_course_frame :
    heldCourse.pinReset.ring.sent = [[165, 1, 0, 4, 0, 0, 0, 1, 15, 64, 63]] := by decide +kernel

/-- R50 and R189: a lap entry with lead 63 and trail 5 for a bar whose travel limit is 40. -/
theorem test_lap_entry_clamped :
    entryPlan 0x017F 40 = { source := .table, lead := 40, trail := 5, clamped := true, underlap := 0, overlap := 0 } := by
  decide

/-! ### The hypotheses of the obligations are met

One theorem per obligation with hypotheses, named after it: concrete states and operands that meet them, at the bounds of
each range where the obligation has clauses over one. -/

theorem witness_IdleStepPassesTime :
    ready.pending = [] ∧ ready.tracker.angleValid = false ∧ ready.expander.job = none ∧ ready.ring.deferred = []
      ∧ (let s := { ready with tracker := { ready.tracker with angleValid := true, sinceIndex := 1449 } }
         s.pending = [] ∧ s.tracker.angleValid = true ∧ 1449 ≤ s.tracker.sinceIndex)
      ∧ (someJob []).todo = [] ∧ asking.expander.job = some (someJob [.rowWord 0])
      ∧ (let s := (ready.setBar 3 movingBar).setBar 4 (searchingBar .seek 1)
         s.bars[3].motion = movingBar.motion ∧ s.bars[4].motion = .searching (search .seek 1) ∧ (search .seek 1).left ≤ 1
         ∧ timeDue s = [.searchSample 4 0])
      ∧ { someCommit with stage := .computing 255 }.stage = .computing 255 ∧ 256 ≤ 255 + 1 ∧ 1000000 ≤ 999999 + 1 := by
  refine ⟨rfl, rfl, rfl, rfl, by decide, rfl, rfl, by decide, rfl, by decide, by decide⟩

theorem witness_PinResetAndItsEnd :
    (Instr.disarm (env [])).request = some (.disarm, env []) ∧ ready.ring.forwarding = []
      ∧ heldCourse.ring.forwarding
          = { ticket := 0, received := cleanFrameOf (courseBody (frame 4 0 [⟨15, 64, 63⟩])), chars := none } :: []
      ∧ (frame 4 0 [⟨15, 64, 63⟩]).overrides.length ≤ 255
      ∧ (service false 1 2 []).reply = false ∧ (service false 1 2 []).dest.toNat = ready.ring.straps.toNat + 1 := by
  refine ⟨rfl, rfl, rfl, by decide, rfl, by decide⟩

theorem witness_GlobalBarNumbers :
    localBar ready.ring.address 15 = some 15 ∧ localBar ready.ring.address 16 = none ∧ 128 ≤ (128 : Byte).toNat
      ∧ exec .ringSilence ready = .next ready := by
  refine ⟨by decide, by decide, by decide, rfl⟩

theorem witness_FaultRecordsAfterResets :
    ready.takesService ∧ (env []).data = [] ∧ (∀ n : BarIx, ready.bars[n].motion = .still) ∧ ready.engine.commit = none
      ∧ (ready.setBar 0 movingBar).takesService ∧ (ready.setBar 0 movingBar).bars[(0 : BarIx)].motion ≠ .still := by
  unfold State.takesService; decide

theorem witness_OrdinaryIncrement :
    (at' .running 1439 [record 3]).samples ∧ (at' .running 0 []).samples ∧ ready.samples
      ∧ ¬ (at' .running 1439 [record 3]).indexRises false := by
  unfold State.samples State.indexRises; decide

theorem witness_IndexIncrement :
    (at' .running 3 []).samples ∧ (at' .running 3 []).tracker.indexWas = false
      ∧ (at' .running 3 []).tracker.angleValid = true ∧ (at' .running 3 []).turned true = 4
      ∧ (at' .running 1436 []).turned false = 1435 ∧ ready.tracker.angleValid = false ∧ ready.samples
      ∧ ready.node.state ≠ .catchup := by
  unfold State.samples; decide

theorem witness_IndexSlipReported :
    (at' .running 4 []).samples ∧ (at' .running 4 []).tracker.indexWas = false
      ∧ (at' .running 4 []).tracker.angleValid = true ∧ (at' .running 4 []).turned true = 5
      ∧ (at' .hold 1434 []).turned true = 1435 ∧ (at' .running 5 []).turned false = 4
      ∧ (at' .offline 1435 []).turned false = 1434 ∧ (at' .catchup 100 []).samples := by
  unfold State.samples; decide

theorem witness_IndexMissingAndStandstill :
    (let s := { at' .hold 7 [] with tracker := { (at' .hold 7 []).tracker with sinceIndex := 1449, oneShot := some 1 } }
     s.tracker.angleValid = true ∧ 1449 ≤ s.tracker.sinceIndex ∧ s.node.state = .hold ∧ s.tracker.oneShot = some 1)
    ∧ (∀ st ∈ [NodeState.running, .hold, .catchup], ∀ pending ∈ [[], [record 3]],
       let s := { at' st 0 pending with tracker := { (at' st 0 []).tracker with sinceIndex := 1449 } }
       s.tracker.angleValid = true ∧ 1449 ≤ s.tracker.sinceIndex ∧ s.tracker.angle = 0 ∧ s.node.state = st
         ∧ s.queue.pending = pending)
    ∧ (let s := { armedNode with tracker := { armedNode.tracker with angle := 0, sinceIndex := 1449 } }
       s.tracker.angleValid = true ∧ 1449 ≤ s.tracker.sinceIndex ∧ s.node.state = .armed ∧ s.queue.pending = record 2 :: [])
    ∧ (let s := { at' .running 1439 [] with tracker := { (at' .running 1439 []).tracker with sinceIndex := 1448 } }
       s.samples ∧ s.tracker.angleValid = true ∧ ¬ s.indexRises false ∧ s.tracker.sinceIndex = 1448 ∧ s.tracker.angle = 1439
         ∧ s.node.state ≠ .catchup) := by
  unfold State.samples State.indexRises; decide

theorem witness_HoldFollowsForward :
    (at' .hold 1439 [record 3]).samples ∧ (at' .hold 1439 [record 3]).tracker.angleValid = true
      ∧ (at' .hold 1439 [record 3]).node.state = .hold ∧ (at' .hold 1439 [record 3]).queue.current = some (record 2)
      ∧ (at' .hold 719 []).turned true = 720 ∧ (at' .hold 718 []).turned true = 719 ∧ (at' .hold 719 []).queue.pending = []
      ∧ (at' .hold 719 []).indexRises true ∧ (at' .hold 1439 []).tracker.sinceIndex < 1448
      ∧ (at' .hold 1435 []).turned true = 1436 ∧ (at' .hold 1435 []).indexRises true
      ∧ (at' .catchup 1439 []).samples ∧ (at' .catchup 1439 []).node.state = .catchup := by
  unfold State.samples State.indexRises; decide

theorem witness_HoldFollowsReverse :
    (at' .hold 0 [record 3]).samples ∧ (at' .hold 0 [record 3]).tracker.angleValid = true
      ∧ (at' .hold 0 [record 3]).node.state = .hold ∧ (at' .hold 0 [record 3]).queue.current = some (record 2)
      ∧ (at' .hold 0 [record 3]).queue.history = [] ++ [record 1]
      ∧ (at' .hold 720 []).turned false = 719 ∧ (at' .hold 721 []).turned false = 720
      ∧ (at' .hold 720 []).indexRises true ∧ (at' .hold 4 []).turned false = 3 ∧ (at' .hold 1436 []).turned false = 1435
      ∧ (at' .catchup 0 []).samples ∧ (at' .catchup 0 []).node.state = .catchup
      ∧ { at' .hold 0 [] with queue := { (at' .hold 0 []).queue with history := [] } }.queue.history = []
      ∧ 16 ≤ (at' .hold 0 (List.replicate 15 (record 3) ++ [record 4])).queue.pending.length := by
  unfold State.samples State.indexRises; decide

theorem witness_BoundaryMakesDueCheck :
    armedNode.samples ∧ armedNode.tracker.angleValid = true ∧ armedNode.tracker.angle = 1439
      ∧ ¬ armedNode.indexRises false ∧ armedNode.tracker.sinceIndex < 1448 ∧ armedNode.queue.pending = record 2 :: [] ∧ armedNode.node.state = .armed
      ∧ armedNode.queue.current = none ∧ armedNode.tracker.tMeas = 16777215
      ∧ (at' .running 1439 [record 3]).samples ∧ (at' .running 1439 [record 3]).queue.pending = record 3 :: []
      ∧ (at' .running 1439 [record 3]).node.state = .running
      ∧ (at' .running 1439 [record 3]).queue.current.isSome = true
      ∧ (∀ angle ∈ [719, 1434, 1435, 1438, 1439], ∀ s ∈ [at' .running angle [record 3],
           { armedNode with tracker := { armedNode.tracker with angle := angle } }],
         s.samples ∧ s.tracker.angleValid = true ∧ s.indexRises true ∧ s.tracker.angle = angle
         ∧ (s.queue.pending = record 3 :: [] ∨ s.queue.pending = record 2 :: []) ∧ s.node.guardEnable = false) := by
  unfold State.samples State.indexRises; decide

theorem witness_RunningRunsOut :
    (at' .running 1439 []).samples ∧ (at' .running 1439 []).tracker.angleValid = true
      ∧ ¬ (at' .running 1439 []).indexRises false ∧ (at' .running 1439 []).node.state = .running
      ∧ (at' .running 1439 []).tracker.angle = 1439 ∧ (at' .running 1439 []).queue.pending = []
      ∧ (let s := { at' .running 0 [] with queue := { (at' .running 0 []).queue with history := [] } }
         s.samples ∧ s.tracker.angle = 0 ∧ s.queue.history = [])
      ∧ (at' .running 1439 []).tracker.sinceIndex < 1448
      ∧ (at' .running 0 [record 3]).samples ∧ (at' .running 0 [record 3]).tracker.angle = 0
      ∧ (at' .running 0 [record 3]).queue.history = [] ++ [record 1]
      ∧ (at' .running 0 [record 3]).queue.current = some (record 2) ∧ [record 3].length < 16
      ∧ (let pending := List.replicate 15 (record 3) ++ [record 4]
         (at' .running 0 pending).queue.pending = pending ∧ 16 ≤ pending.length)
      ∧ (∀ angle ∈ [1, 4, 1435, 1438, 1439], (at' .running angle []).samples ∧ (at' .running angle []).tracker.angleValid = true
         ∧ (at' .running angle []).indexRises true ∧ (at' .running angle []).tracker.angle = angle
         ∧ (at' .running angle []).queue.pending = [] ∧ (at' .running angle []).queue.history = [] ++ [record 1]
         ∧ (at' .running angle []).node.guardEnable = false)
      ∧ { at' .running 4 [] with queue := { (at' .running 4 []).queue with history := [] } }.queue.history = [] := by
  unfold State.samples State.indexRises; decide

theorem witness_ShaftOutsideRunning :
    (at' .offline 1439 []).samples ∧ (at' .offline 1439 []).node.state ≠ .running ∧ armedNode.samples
      ∧ armedNode.node.state = .armed
      ∧ (∀ x ∈ [(718, true, true), (100, true, false), (1438, true, false), (0, false, true)],
         let s := { armedNode with tracker := { armedNode.tracker with angle := x.1 } }
         s.samples ∧ s.node.state = .armed ∧ (x.2.1 = true → ¬ s.crossesBoundary x.2.1 x.2.2) ∧ s.queue.pending ≠ []) := by
  unfold State.samples State.crossesBoundary State.indexRises; decide

theorem witness_CatchupDisturbed :
    (at' .catchup 350 []).samples ∧ (at' .catchup 350 []).node.state = .catchup
      ∧ ¬ (at' .catchup 350 []).indexRises false ∧ (at' .catchup 350 []).tracker.angle ≠ 1439 := by
  unfold State.samples State.indexRises; decide

theorem witness_CrossingsStartAndGuard :
    (let s := (at' .running 200 []).setBar 0 standingBar
     s.node.state = .running ∧ s.bars[(0 : BarIx)].mode = .motion ∧ s.queue.current = some (record 2)
       ∧ s.queue.history.getLast? = some (record 1) ∧ s.rampOf s.bars[(0 : BarIx)] = some [500]
       ∧ 1 = (record 2).plans[(0 : BarIx)].lead ∧ 1 = (record 1).plans[(0 : BarIx)].trail
       ∧ s.bars[(0 : BarIx)].motion = .still ∧ 1 * (s.classOf s.bars[(0 : BarIx)]).spn ≠ s.bars[(0 : BarIx)].pos
       ∧ 1 * (s.classOf s.bars[(0 : BarIx)]).spn = ({ standingBar with pos := 20 } : Bar).pos)
    ∧ ((at' .running 200 []).setBar 0 movingBar).bars[(0 : BarIx)].motion = movingBar.motion
    ∧ { at' .running 200 [] with queue := Queue.initial }.queue.history = []
    ∧ ready.node.state ≠ .running
    ∧ (∀ x ∈ [(199, true, Edge.underlapStart), (559, true, .overlapStart), (480, false, .underlapEnd), (656, false, .overlapEnd)],
       let s := (at' .running x.1 []).setBar 0 standingBar
       s.samples ∧ s.tracker.angleValid = true ∧ ¬ s.indexRises false ∧ s.node.state = .running ∧ s.node.guardEnable = false
         ∧ 1 ≤ s.node.ul ∧ 1 ≤ s.node.ol ∧ s.tracker.recross = 0
         ∧ s.node.edgeAngle s.bars[(0 : BarIx)].activeTrim x.2.2
           = some (if x.2.1 then s.tracker.angle + 1 else s.tracker.angle))
    ∧ (let s := { at' .running 199 [] with tracker := { (at' .running 199 []).tracker with recross := 4, recrossForward := true } }
       0 < s.tracker.recross ∧ s.tracker.recrossForward = true) := by
  unfold State.samples State.indexRises; decide

theorem witness_CrossesNoBoundary :
    (∀ x ∈ [(0, true, true), (3, true, true), (4, true, true), (718, true, true), (100, true, false), (1438, true, false),
        (1439, false, true), (1436, false, true), (1435, false, true), (721, false, true), (1, false, false)],
      (at' .running x.1 []).samples ∧ (at' .running x.1 []).node.state = .running
        ∧ ¬ (at' .running x.1 []).crossesBoundary x.2.1 x.2.2 ∧ (at' .running x.1 []).node.guardEnable = false)
    ∧ (at' .running 4 []).turned true = 5 ∧ (at' .running 3 []).turned true = 4
    ∧ (at' .running 1435 []).turned false = 1434 ∧ (at' .running 1436 []).turned false = 1435
    ∧ (at' .running 719 []).crossesBoundary true true ∧ (at' .running 720 []).crossesBoundary false true
    ∧ { ready with node := (at' .running 0 []).node }.tracker.angleValid = false
    ∧ (∀ e ∈ [Edge.underlapStart, .underlapEnd, .overlapStart, .overlapEnd],
      (at' .running 100 []).node.edgeAngle 0 e ≠ some 101) := by
  unfold State.samples State.crossesBoundary State.indexRises; decide

/-- A node in RUNNING at an angle with a MOVING bar whose edges lie at 2, 282, 642 and 1438. -/
def nearIndex (angle : Nat) (guarded : Bool) : State :=
  { at' .running angle [] with
    node := { (at' .running angle []).node with guardEnable := guarded, us := 2, ul := 280, os := 642, ol := 796 } }.setBar 0
    movingBar

/-- R5 and R124: a forward increment over an underlap start starts the bar's move to its lead, 20 steps up. R7: an index that
finds the counter at 1437 issues the overlap end at 1438, which a MOVING bar reports as GUARD. -/
theorem test_crossings_of_an_increment :
    (let s := (at' .running 199 []).setBar 0 standingBar
     match exec (s.turn true false) s with
      | .next t => some (match t.bars[(0 : BarIx)].motion with | .moving m => (m.steps, m.up, m.emitted) | _ => (0, false, 0))
      | _ => none) = some (20, true, 1)
    ∧ (match exec ((nearIndex 1436 false).turn true true) (nearIndex 1436 false) with
      | .next t => t.faults.bars[(0 : BarIx)].map fun c => (c.code, c.tag, c.angle)
      | _ => none) = some (.guard, some 2, 1438) := by decide +kernel

theorem witness_CrossingsAtAnIndex :
    (∀ guarded ∈ [false, true], ∀ angle ∈ [3, 4, 1435, 1436],
      (nearIndex angle guarded).samples ∧ (nearIndex angle guarded).tracker.angleValid = true
      ∧ (nearIndex angle guarded).indexRises true ∧ (nearIndex angle guarded).node.state = .running
      ∧ (nearIndex angle guarded).node.guardEnable = guarded ∧ 16 ≤ (nearIndex angle guarded).node.ul
      ∧ 16 ≤ (nearIndex angle guarded).node.ol ∧ (nearIndex angle guarded).tracker.angle = angle
      ∧ (nearIndex angle guarded).bars[(0 : BarIx)].mode = .motion
      ∧ (nearIndex angle guarded).bars[(0 : BarIx)].motion = movingBar.motion
      ∧ (nearIndex angle guarded).node.edgeAngle (nearIndex angle guarded).bars[(0 : BarIx)].activeTrim .overlapEnd = some 1438
      ∧ (nearIndex angle guarded).node.edgeAngle (nearIndex angle guarded).bars[(0 : BarIx)].activeTrim .underlapStart = some 2)
    ∧ (nearIndex 281 false).node.us + (nearIndex 281 false).node.ul < (nearIndex 281 false).node.os
    ∧ (∀ x ∈ [(281, true, Edge.underlapEnd), (1437, true, .overlapEnd), (2, false, .underlapStart), (642, false, .overlapStart)],
      ¬ (nearIndex x.1 true).indexRises false ∧ (nearIndex x.1 true).tracker.recross = 0
      ∧ (nearIndex x.1 true).node.edgeAngle (nearIndex x.1 true).bars[(0 : BarIx)].activeTrim x.2.2
          = some (if x.2.1 then (nearIndex x.1 true).tracker.angle + 1 else (nearIndex x.1 true).tracker.angle)) := by
  unfold State.samples State.indexRises; decide

theorem witness_GuardTakesHold :
    (let s := { at' .running 479 [] with node := { (at' .running 479 []).node with guardEnable := true } }.setBar 0 movingBar
     s.samples ∧ s.tracker.angleValid = true ∧ s.tracker.recross = 0 ∧ ¬ s.indexRises false ∧ s.tracker.angle < 1439
       ∧ s.node.state = .running ∧ s.node.guardEnable = true ∧ s.bars[(0 : BarIx)].mode = .motion
       ∧ s.bars[(0 : BarIx)].motion = movingBar.motion
       ∧ s.node.edgeAngle s.bars[(0 : BarIx)].activeTrim .underlapEnd = some (s.tracker.angle + 1)
       ∧ s.node.edgeAngle s.bars[(0 : BarIx)].activeTrim .overlapEnd = some 656) := by
  unfold State.samples State.indexRises; decide

theorem witness_PulsesFollowTheMove :
    (ready.setBar 0 movingBar).bars[(0 : BarIx)].motion
        = .moving { up := true, steps := 2, emitted := 1, ramp := [500], left := 500 } := by
  decide

/-- A bar whose move has emitted its last pulse, with or without a target to follow. -/
def doneBar (next : Option Nat) : Bar :=
  { movingBar with
    pos := 2, next := next, motion := .moving { up := true, steps := 2, emitted := 2, ramp := [500], left := 0 } }

theorem witness_MoveCompletes :
    (∀ st ∈ [NodeState.offline, .running, .catchup],
      let s := (at' st 100 []).setBar 0 (doneBar none)
      s.bars[(0 : BarIx)].motion = .moving { up := true, steps := 2, emitted := 2, ramp := [500], left := 0 }
        ∧ s.bars[(0 : BarIx)].next = none ∧ s.node.state = st)
    ∧ (let s := (at' .running 100 []).setBar 0 (doneBar (some 20))
       s.bars[(0 : BarIx)].next = some 20 ∧ 20 ≠ s.bars[(0 : BarIx)].pos ∧ s.rampOf s.bars[(0 : BarIx)] = some [500])
    ∧ (∀ next ∈ [20, 2],
       let s := (at' .catchup 100 []).setBar 0 (doneBar (some next))
       s.node.state = .catchup ∧ s.bars[(0 : BarIx)].next = some next ∧ s.bars[(0 : BarIx)].mode = .motion
         ∧ s.bars[(0 : BarIx)].pos = 2)
    ∧ ((at' .hold 100 []).setBar 0 (doneBar (some 2))).bars[(0 : BarIx)].next = some 2 ∧ (doneBar (some 2)).pos = 2 := by
  decide

theorem witness_SearchSamples :
    (∀ leg ∈ [Leg.backOff, .seek], ∀ pulses ∈ [4159, 4160],
      (ready.setBar 0 (searchingBar leg pulses)).bars[(0 : BarIx)].motion = .searching (search leg pulses)
        ∧ (search leg pulses).leg = leg ∧ (search leg pulses).pulses = pulses)
    ∧ ready.node.state ≠ .catchup
    ∧ (∀ pos ∈ [10, 11],
       let s := { at' .catchup 100 [] with
         node := { (at' .catchup 100 []).node with catchup := noTargets.set 0 (some pos) } }.setBar 0
           { searchingBar .seek 3 with mode := .motion, limit := 63 }
       let found := s.setBar 0 { s.bars[(0 : BarIx)] with pos := 10, target := 10, referenced := true, motion := .still }
       s.bars[(0 : BarIx)].motion = .searching (search .seek 3)
         ∧ min (search .seek 3).homePos (s.bars[(0 : BarIx)].limit * (s.classOf s.bars[(0 : BarIx)]).spn) = 10
         ∧ ((s.node.state = .catchup ∧ ∀ k : BarIx, found.bars[k].mode = .motion →
             found.bars[k].motion = .still ∧ s.node.catchup[k] = some found.bars[k].pos) ↔ pos = 10))
    ∧ (((1 : BitVec 16).getLsbD 0 == (Polarity.activeHigh == .activeHigh)) = true)
    ∧ (((0 : BitVec 16).getLsbD 0 == (Polarity.activeHigh == .activeHigh)) = false) := by
  decide

theorem witness_ArbiterPriority :
    asking.store.access = none ∧ asking.store.state = .ready ∧ (asking.nextAccess .expander).isSome
      ∧ (asking.nextAccess .service).isSome ∧ (asking.nextAccess .engine).isSome
      ∧ asking.store.waitExpander = true ∧ asking.store.waitService = true ∧ asking.store.waitEngine = true
      ∧ State.reset.store.state = .clearing ∧ ready.store.waitExpander = false ∧ ready.store.waitService = false
      ∧ ready.store.waitEngine = false ∧ { asking with store := ready.store }.store.access = none
      ∧ asking.expander.job = some (someJob [.rowWord 0]) ∧ (someJob [.rowWord 0]).todo = .rowWord 0 :: []
      ∧ (someJob [.lapEntry 15]).todo = .lapEntry 15 :: [] ∧ asking.store.staging = (5, 9) :: []
      ∧ ready.store.staging = [] ∧ { ready.store with read := some someReadJob }.read = some someReadJob
      ∧ asking.engine.commit = some someCommit := by
  refine ⟨rfl, rfl, by decide, by decide, by decide, rfl, rfl, rfl, rfl, rfl, rfl, rfl, rfl, rfl, rfl, rfl, rfl, rfl, rfl, rfl⟩

theorem witness_LoadWordWritten :
    ready.store.words.wf = true ∧ ready.ring.waiting = [] ∧ 2 ≤ [((5 : Nat), (9 : Word)), (6, 10)].length ∧ 66687 < 66688
      ∧ (withAccess ready .service 66687 (some 5)).store.access
          = some { client := .service, addr := 66687, write := some 5, orphan := false }
      ∧ (withAccess ready .service 66688 none).store.access
          = some { client := .service, addr := 66688, write := none, orphan := false } ∧ 66688 ≤ 66688 := by
  decide

theorem witness_ReadWordDelivered :
    ((readOutcome 0).severity = none ∧ (readOutcome 1).severity = some .correctable
      ∧ (readOutcome 3).severity = some .uncorrectable)
    ∧ (let s := { ready with store := { ready.store with read := some someReadJob } }
     (withAccess s .service 0 none).store.access = some { client := .service, addr := 0, write := none, orphan := false }
       ∧ (withAccess s .service 0 none).store.read = some someReadJob
       ∧ someReadJob.words.length + 1 < someReadJob.count
       ∧ 2 ≤ ({ someReadJob with words := [7] } : ReadJob).words.length + 1) := by
  decide

theorem witness_FetchDelivered :
    (withAccess asking .engine 66560 none).store.access
        = some { client := .engine, addr := 66560, write := none, orphan := false }
      ∧ (withAccess asking .engine 66560 none).engine.commit = some someCommit ∧ someCommit.stage = .fetching
      ∧ (withAccess asking .expander 0 none).store.access
        = some { client := .expander, addr := 0, write := none, orphan := false }
      ∧ (withAccess asking .expander 0 none).expander.job = some (someJob [.rowWord 0])
      ∧ (someJob [.rowWord 0]).todo = .rowWord 0 :: [] ∧ (someJob [.lapEntry 15]).todo = .lapEntry 15 :: [] := by
  refine ⟨by decide, by decide, by decide, by decide, rfl, rfl, rfl⟩

theorem witness_CorrectedCount :
    (readOutcome 1).severity = some .correctable ∧ (readOutcome 0).severity = none
      ∧ ({ ready.store with corrected := 254 } : Store).corrected < 255
      ∧ ({ ready.store with corrected := 255 } : Store).corrected = 255
      ∧ (withAccess ready .expander 66687 none).store.access
          = some { client := .expander, addr := 66687, write := none, orphan := false }
      ∧ ready.takesService ∧ (env [0, 0, 0, 0, 0, 0]).data.length = 6 := by
  unfold State.takesService; decide +kernel

theorem witness_CaptureRecordCleared :
    ready.takesService ∧ (env []).data = [] ∧ (readOutcome 3).severity = some .uncorrectable
      ∧ (∀ n : BarIx, ready.bars[n].motion = .still) ∧ ready.engine.commit = none := by
  unfold State.takesService; decide +kernel

theorem witness_MoveTimeIsItsPeriods : 1 ≤ [500].length ∧ 2 * [500].length ≤ 2 ∧ 1 ≤ ramp8.length ∧ 15 < 2 * ramp8.length := by decide

theorem witness_CourseRequirement :
    1 ≤ ready.node.ul ∧ 1 ≤ ready.node.ol ∧ (record 3).plans[(0 : BarIx)].source ≠ .excluded
      ∧ (planRecord ready (record 3) blankRecord).tMin < 16777215 ∧ (planRecord ready (record 3) blankRecord).tMin ≠ 0 := by
  decide +kernel

theorem witness_CeilingOfRecord :
    (planRecord ready (record 3) (record 2)).tMin = 0 ∧ (planRecord ready (record 3) blankRecord).tMin ≠ 0 := by
  decide +kernel

theorem witness_CommitClassTaken :
    ready.takesService ∧ (env []).data = [] ∧ 4 ≤ (4 : Byte).toNat ∧ (3 : Byte).toNat = (3 : ClassIx).val
      ∧ ready.node.state = .offline ∧ ready.engine.commit = none ∧ ready.store.state = .ready ∧ ready.store.access = none
      ∧ (at' .hold 0 []).takesService ∧ (at' .hold 0 []).node.state ≠ .armed
      ∧ State.reset.takesService ∧ State.reset.store.state = .clearing
      ∧ (withAccess ready .service 0 none).takesService ∧ (withAccess ready .service 0 none).store.access.isSome := by
  unfold State.takesService; decide

theorem witness_CommitSwapped :
    (let j := { someCommit with stage := .computing 255, fetched := [500, 400] }
     let s := { armedNode with engine := { armedNode.engine with commit := some j } }
     s.engine.commit = some j ∧ j.stage = .computing 255 ∧ s.queue.current = none
       ∧ s.queue.history.getLast? = some (record 1) ∧ s.queue.pending[0]? = some (record 2)) := by
  refine ⟨rfl, rfl, rfl, rfl, rfl⟩

/-- A node whose pending list is full. -/
def fullNode : State :=
  { at' .running 100 [] with
    queue := { history := [record 1], current := some (record 2)
               pending := (List.range 16).map fun k => record (BitVec.ofNat 16 (k + 3))
               expected := some 19, dueCheck := none } }

theorem witness_AcceptanceChecks :
    QueueInv State.reset ∧ QueueInv (at' .running 100 [record 3]) ∧ QueueInv fullNode
      ∧ handOverCheck State.reset (frame 1 0 []) = some .state
      ∧ handOverCheck { fullNode with engine := { fullNode.engine with commit := some someCommit } } (frame 1 0 [])
          = some .busy
      ∧ handOverCheck fullNode (frame 1 2 []) = some .malformed
      ∧ handOverCheck fullNode (frame 1 0 (List.replicate 9 ⟨0, 0, 0⟩)) = some .malformed
      ∧ handOverCheck fullNode (frame 1 0 []) = some .duplicate ∧ handOverCheck fullNode (frame 18 0 []) = some .duplicate
      ∧ handOverCheck fullNode (frame 0 0 []) = some .gap ∧ handOverCheck fullNode (frame 20 0 []) = some .gap
      ∧ handOverCheck fullNode (frame 19 1 []) = some .full
      ∧ handOverCheck (at' .running 100 [record 3]) (frame 4 1 (List.replicate 8 ⟨0, 0, 0⟩)) = none := by
  refine ⟨⟨by decide, by decide, ⟨rfl, rfl, rfl⟩, trivial, by decide⟩,
    ⟨by decide, by decide, rfl, ⟨rfl, rfl, trivial⟩, by decide⟩, ⟨by decide, by decide, rfl, ?_, by decide⟩,
    by decide, by decide, by decide, by decide, by decide, by decide, by decide, by decide, by decide, by decide⟩
  repeat' first | exact trivial | refine ⟨by decide, ?_⟩

theorem witness_CourseFrameRefused :
    fullNode.inReset = false ∧ fullNode.expander.job = none ∧ fullNode.store.staging = [] ∧ handOverCheck fullNode (frame 19 1 []) = some .full
      ∧ fullNode.queue.pending.length ≤ 16 := by
  decide

theorem witness_CourseFrameExpands :
    (let s := ((at' .running 100 [record 3]).setBar 0 standingBar).setBar 15 standingBar
     let f := frame 4 1 [⟨15, 64, 63⟩]
     s.inReset = false ∧ s.expander.job = none ∧ s.store.staging = [] ∧ handOverCheck s f = none ∧ s.bars[(0 : BarIx)].mode = .motion
       ∧ s.bars[(15 : BarIx)].mode = .motion ∧ s.bars[(1 : BarIx)].mode ≠ .motion
       ∧ f.overrides = [] ++ ⟨15, 64, 63⟩ :: [] ∧ (15 : Byte).toNat = (s.ring.address - 1) * 16 + 15
       ∧ s.store.access = none ∧ s.store.state = .ready ∧ (withAccess s .engine 66560 none).store.access.isSome
       ∧ (expansionOf s 0 f).todo = [.rowWord 0, .lapEntry 0]) := by
  decide

theorem witness_ExpansionCompletes :
    (let s := { at' .running 100 [record 3] with expander := { ready.expander with job := some (someJob []) } }
     s.expander.job = some (someJob []) ∧ (someJob []).todo = [] ∧ s.ring.waiting = []
       ∧ completionCheck s (someJob []).frame.tag = none ∧ (someJob []).ecc = false ∧ s.queue.newest = some (record 3))
    ∧ completionCheck fullNode 19 = some .full
    ∧ (let j := { someJob [] with ecc := true }
       let s := { at' .running 100 [record 3] with expander := { ready.expander with job := some j } }
       s.expander.job = some j ∧ j.todo = [] ∧ s.ring.waiting = [] ∧ completionCheck s j.frame.tag = none ∧ j.ecc = true) := by
  refine ⟨⟨rfl, rfl, rfl, by decide, rfl, by decide⟩, by decide, rfl, rfl, rfl, by decide, rfl⟩

/-- A clean frame of 16 characters for node 1, ended with the mark given. -/
def marked (dest : Byte) (mark : Byte) : List RxChar :=
  received (withLast (cleanFrameOf (serviceBody (service false dest 9 []))) mark)

/-- A request for node 1 whose CRC alone is bad. -/
def badCrc (op : Byte) (args : Args) (data : List Word) : List RxChar :=
  let body := serviceBody { service false 1 op data with args := args }
  received (frameOf body (crc body + 1) 0)

theorem witness_CorruptFramesActOnNothing :
    (∀ op ∈ [(1 : Byte), 2, 13], judge (badCrc op ⟨0, 0, 3, 2, 0, 0⟩ [7, 8]) = .badCrc
      ∧ (let cs := (badCrc op ⟨0, 0, 3, 2, 0, 0⟩ [7, 8]).map RxChar.value
         cs.getD 1 0 = 2 ∧ (cs.getD 2 0).toNat = ready.ring.straps.toNat + 1 ∧ cs.getD 4 0 = op ∧ 12 ≤ cs.length
         ∧ (cs.getD 8 0).toNat = 2 ∧ (cs.getD 11 0).toNat = 2))
    ∧ (judge (badCrc 2 ⟨0, 0, 3, 1, 0, 0⟩ [7, 8]) = .badCrc ∧ ready.store.state = .ready ∧ State.reset.store.state = .clearing
      ∧ ready.store.staging = [] ∧ ready.store.read = none ∧ ready.expander.job = none ∧ ready.ring.deferred = [])
    ∧
    ready.inReset = false ∧ (judge (marked 2 255)).isClean = false ∧ judge (marked 2 255) ≠ .noFrame
      ∧ ((marked 2 255).map RxChar.value).getD 2 0 = 2 ∧ judge [] = .noFrame
      ∧ judge [⟨165, true⟩] = .short ∧ judge (marked 2 255) = .marked ∧ judge (marked 2 0 ++ [⟨0, true⟩]) = .long 16 := by
  decide +kernel

theorem witness_PassedFramesAndRingLost :
    ready.inReset = false ∧ (service true 1 9 []).reply = true ∧ (service false 2 9 []).dest.toNat ≠ ready.ring.straps.toNat + 1
      ∧ ready.ring.forwarding = [] ∧ { ready.ring with up := true, silence := some 3 }.up = true ∧ ready.ring.up = false
      ∧ ready.ring.silence = none ∧ { ready.ring with up := true, silence := some 3 }.silence = some 3
      ∧ (let held : Forward := ⟨0, [165], none⟩
         let known : Forward := ⟨1, [165, 3], some [165, 3]⟩
         let later : Forward := ⟨2, [165, 2], none⟩
         held.chars = none ∧ (∀ e ∈ [held, known, later], e.ticket ≠ 3)
         ∧ [held, known, later] = held :: [known] ++ later :: []
         ∧ [held, known, later]
            = held :: [(1, [165, 3], [165, 3])].map (fun e => { ticket := e.1, received := e.2.1, chars := some e.2.2 }) ++ [later]
         ∧ (∀ e ∈ held :: [known] ++ [], e.ticket ≠ later.ticket) ∧ ∀ e ∈ [known, later], e.ticket ≠ held.ticket) := by
  decide

theorem witness_FramesRoundTrip :
    (frame 1 0 (List.replicate 255 ⟨0, 0, 0⟩)).wf = true ∧ (service true 1 9 (List.replicate 32 0)).wf = true := by
  decide +kernel

theorem witness_RequestsRoundTrip :
    (ServiceOp.unknownOp 15).wf = true ∧ (ServiceOp.unknownParameter 39 0 0).wf = true ∧ (ServiceOp.disarm).wf = true
      ∧ (env (List.replicate 32 0)).wf = true ∧ (env (List.replicate 32 0)).data.length ≤ 32
      ∧ (∀ ws, (Reply.notReady .shaft).data = some ws → ws.length ≤ 32) := by
  refine ⟨by decide, by decide, by decide, by decide, by decide, nofun⟩

theorem witness_RequestsWaitTheirTurn :
    (let d : Deferred := { op := .disarm, env := env [], ticket := 0, form := .clean }
     let s := { ready with store := { ready.store with staging := [(0, 1)] } }
     let u := { ready with ring := { ready.ring with deferred := [d] } }
     (Instr.disarm (env [])).request = some (.disarm, env []) ∧ s.inReset = false ∧ s.store.staging ≠ []
       ∧ u.store.staging = [] ∧ u.store.read = none ∧ u.expander.job = none ∧ u.ring.deferred = d :: []
       ∧ ∀ start count, d.op ≠ .read start count) := by
  refine ⟨rfl, rfl, by decide, rfl, rfl, rfl, rfl, fun _ _ h => by cases h⟩

theorem witness_HeldReadBegins :
    (∀ s ∈ [ready, State.reset], s.store.staging = [] ∧ s.store.read = none ∧ s.expander.job = none)
      ∧ ready.store.state = .ready ∧ State.reset.store.state = .clearing
      ∧ (let count : Byte := 32
         (1 ≤ count.toNat ∧ count.toNat ≤ 32 ∧ (env (List.replicate 32 0)).data.length = count.toNat)
         ∧ (66656 : BitVec 24).toNat + count.toNat - 1 = 66687 ∧ 66687 < (66657 : BitVec 24).toNat + count.toNat - 1) := by
  decide

/-- The next state of a command, where it answers one. -/
def after (c : Instr) (s : State) : State := match exec c s with | .next t => t | _ => s

/-- A node in RUNNING with one staged word being written and two course frames waiting for it, the first for course 3 or 9. -/
def framesWaiting (tag : Word) : State :=
  { withAccess (at' .running 100 []) .service 5 (some 9) with
    store := { (withAccess (at' .running 100 []) .service 5 (some 9)).store with staging := [(5, 9)] }
    ring := { ready.ring with waiting := [(0, frame tag 0 []), (1, frame 4 0 [])] } }

theorem witness_CourseFrameWaits :
    (framesWaiting 3).inReset = false ∧ (framesWaiting 3).store.staging ≠ [] ∧ (framesWaiting 3).store.staging.length ≤ 1
      ∧ (framesWaiting 3).expander.job = none
      ∧ (framesWaiting 3).ring.waiting = (0, frame 3 0 []) :: [(1, frame 4 0 [])]
      ∧ (framesWaiting 3).store.access = some { client := .service, addr := 5, write := some 9, orphan := false }
      ∧ handOverCheck (framesWaiting 3) (frame 3 0 []) = none ∧ (handOverCheck (framesWaiting 9) (frame 9 0 [])).isSome
      ∧ { ready with expander := { ready.expander with job := some (someJob []) } }.expander.job = some (someJob [])
      ∧ (someJob []).todo = [] := by
  refine ⟨rfl, by decide, by decide, rfl, rfl, rfl, by decide, by decide, rfl, rfl⟩

/-- R34: a course frame that arrives before the last word of a LOAD is written waits, and its expansion begins with that
write. -/
theorem test_course_frame_waits_for_load :
    (let waits := after (.courseFrame (frame 4 0 [])) (framesWaiting 3)
     (waits.ring.waiting.length, waits.expander.job.isSome)) = (3, false)
    ∧ (let written := after .wordAccessComplete (framesWaiting 3)
       (written.ring.waiting.length, written.expander.job.map fun j => j.frame.tag)) = (1, some 3) := by decide +kernel

theorem witness_RefusalsChangeNothing :
    (Instr.arm (env []) 1).request = some (.arm 1, env []) ∧ ready.takesService
      ∧ (immediateOp (.arm 1) [] (at' .hold 0 [])).2.result = .state ∧ (Instr.arm (env [1]) 1).request = some (.arm 1, env [1])
      ∧ (env [1]).data ≠ [] := by
  refine ⟨rfl, ?_, by decide, rfl, by decide⟩
  unfold State.takesService; decide

theorem witness_NodeParametersSet :
    ready.takesService ∧ (env []).data = [] ∧ ready.node.state = .offline ∧ (at' .hold 0 []).takesService
      ∧ (at' .hold 0 []).node.state ≠ .offline
      ∧ (1 ≤ (1 : Word).toNat ∧ (4096 : Word).toNat ≤ 4096 ∧ (0 : Word).toNat < 1 ∧ 4096 < (4097 : Word).toNat)
      ∧ ((64 : Word).toNat ≤ 64 ∧ 64 < (65 : Word).toNat ∧ 2 ≤ (2 : Word).toNat ∧ (255 : Word).toNat ≤ 255
        ∧ (1 : Word).toNat < 2 ∧ 255 < (256 : Word).toNat)
      ∧ ((1439 : Word).toNat ≤ 1439 ∧ 1439 < (1440 : Word).toNat ∧ 16 ≤ (16 : Word).toNat ∧ (720 : Word).toNat ≤ 720
        ∧ (15 : Word).toNat < 16 ∧ 720 < (721 : Word).toNat ∧ (63 : Word).toNat ≤ 63 ∧ 63 < (64 : Word).toNat) := by
  unfold State.takesService; decide

theorem witness_ClassAndTravelSet :
    (let s := ready.setBar 0 { standingBar with mode := .jog, pos := 81 }
     s.takesService ∧ s.node.state = .offline ∧ (3 : Byte).toNat = (3 : ClassIx).val
       ∧ s.engine.classes[(0 : ClassIx)].state ≠ .computing
       ∧ (∀ n : BarIx, s.bars[n].cls = 0 → s.bars[n].motion = .still)
       ∧ (∀ n : BarIx, s.bars[n].cls = 0 → s.bars[n].referenced = true → s.bars[n].pos ≤ s.bars[n].limit * 4)
       ∧ s.bars[(0 : BarIx)].referenced = true ∧ 4 * (s.classOf s.bars[(0 : BarIx)]).spn < s.bars[(0 : BarIx)].pos
       ∧ s.bars[(0 : BarIx)].pos ≤ 5 * (s.classOf s.bars[(0 : BarIx)]).spn)
    ∧ (let s := { ready with engine := { ready.engine with classes := ready.engine.classes.set 3 { goodClass with state := .computing } } }
       s.takesService ∧ s.node.state = .offline ∧ s.engine.classes[(3 : ClassIx)].state = .computing)
    ∧ (let s := ready.setBar 0 { standingBar with pos := 63 * 4 + 1 }
       s.bars[(0 : BarIx)].cls = 0 ∧ s.bars[(0 : BarIx)].limit * (4 : Word).toNat < s.bars[(0 : BarIx)].pos)
    ∧ (let s := ready.setBar 0 movingBar
       s.takesService ∧ s.node.state = .offline ∧ s.bars[(0 : BarIx)].cls = 0 ∧ s.bars[(0 : BarIx)].motion ≠ .still)
    ∧ ((3 : Word).toNat < 4 ∧ 64 < (65 : Word).toNat ∧ (0 : Word).toNat < 1 ∧ 32 < (33 : Word).toNat ∧ 4 ≤ (4 : Byte).toNat
      ∧ 3 < (4 : Word).toNat ∧ 16 ≤ (16 : Byte).toNat)
    ∧ (at' .hold 0 []).takesService ∧ (at' .hold 0 []).node.state ≠ .offline
    ∧ (4 ≤ (4 : Word).toNat ∧ (64 : Word).toNat ≤ 64 ∧ 1 ≤ (1 : Word).toNat ∧ (32 : Word).toNat ≤ 32) := by
  unfold State.takesService; decide

theorem witness_BarParametersSet :
    ready.takesService ∧ (env []).data = [] ∧ (15 : Byte).toNat = (15 : BarIx).val ∧ 16 ≤ (16 : Byte).toNat
      ∧ ready.node.state = .offline ∧ ready.bars[(15 : BarIx)].motion = .still ∧ ready.bars[(15 : BarIx)].mode ≠ .jog
      ∧ (ready.setBar 0 standingBar).bars[(0 : BarIx)].mode ≠ .parked
      ∧ (ready.setBar 0 movingBar).bars[(0 : BarIx)].motion ≠ .still
      ∧ ((-64 : Word).toInt = -64 ∧ (63 : Word).toInt = 63 ∧ (-65 : Word).toInt < -64 ∧ 63 < (64 : Word).toInt)
      ∧ ((4032 : Word).toNat ≤ 4032 ∧ (2 : Word).toNat ≤ 2 ∧ 3 ≤ (3 : Word).toNat ∧ (3 : Word).toNat = (3 : Fin 4).val
        ∧ 4 ≤ (4 : Word).toNat ∧ 4032 < (4033 : Word).toNat ∧ 2 ≤ (2 : Word).toNat ∧ (1 : Word).toNat ≤ 1)
      ∧ (at' .hold 0 []).takesService ∧ (at' .hold 0 []).node.state ≠ .offline := by
  unfold State.takesService; decide

theorem witness_ParametersRead :
    ready.takesService ∧ (env []).data = [] ∧ (3 : Byte).toNat = (3 : ClassIx).val ∧ (15 : Byte).toNat = (15 : BarIx).val
      ∧ knownIdentity 39 = false ∧ 4 ≤ (4 : Byte).toNat ∧ 32 ≤ (32 : Byte).toNat ∧ 16 ≤ (16 : Byte).toNat := by
  unfold State.takesService; decide

/-- OFFLINE with the angle valid and a referenced MOTION bar that stands at a needle space. -/
def armable : State := { ready with tracker := { ready.tracker with angleValid := true } }.setBar 0 { standingBar with pos := 20 }

theorem witness_ArmDisarmRestart :
    armable.takesService ∧ (env []).data = [] ∧ armable.node.state = .offline ∧ armable.store.state = .ready
      ∧ (∀ n : BarIx, armable.bars[n].motion = .still) ∧ ready.tracker.angleValid = false
      ∧ armable.tracker.angleValid = true ∧ armable.bars[(0 : BarIx)].mode = .motion
      ∧ (∀ n : BarIx, armable.bars[n].mode = .motion → (armable.classOf armable.bars[n]).state = .valid
          ∧ armable.bars[n].referenced = true ∧ armable.bars[n].pos % (armable.classOf armable.bars[n]).spn = 0)
      ∧ 1 ≤ armable.node.us ∧ armable.node.us + armable.node.ul ≤ armable.node.os ∧ armable.node.os + armable.node.ol ≤ 1439
      ∧ armable.store.diagMode = false ∧ (at' .armed 0 []).node.state ≠ .offline ∧ armable.engine.commit = none
      ∧ (let s := { armable with engine := Engine.initial }
         s.takesService ∧ s.bars[(0 : BarIx)].mode = .motion ∧ (s.classOf s.bars[(0 : BarIx)]).state ≠ .valid)
      ∧ (armable.setBar 0 { standingBar with referenced := false }).bars[(0 : BarIx)].referenced = false
      ∧ (let s := armable.setBar 0 { standingBar with pos := 21 }
         s.bars[(0 : BarIx)].referenced = true ∧ s.bars[(0 : BarIx)].pos % (s.classOf s.bars[(0 : BarIx)]).spn ≠ 0)
      ∧ (∀ w ∈ [(0, 280, 560, 96), (200, 361, 560, 96), (200, 280, 1344, 96)],
         w.1 < 1 ∨ w.2.2.1 < w.1 + w.2.1 ∨ 1439 < w.2.2.1 + w.2.2.2)
      ∧ { armable.store with diagMode := true }.diagMode = true
      ∧ (let s := armable.setBar 1 movingBar
         s.takesService ∧ s.node.state = .offline ∧ s.bars[(1 : BarIx)].mode = .motion
         ∧ s.bars[(1 : BarIx)].motion = movingBar.motion)
      ∧ State.reset.takesService ∧ State.reset.node.state = .offline ∧ State.reset.store.state = .clearing := by
  unfold State.takesService; decide

/-- HOLD with the shaft standing at an angle and one MOTION bar that stands. -/
def resumable (angle : Nat) (b : Bar) : State := (at' .hold angle []).setBar 0 b

theorem witness_ResumeTaken :
    (∀ angle ∈ [199, 200, 559, 560], (resumable angle standingBar).takesService
      ∧ (resumable angle standingBar).node.state = .hold ∧ (resumable angle standingBar).node.desync = false
      ∧ (resumable angle standingBar).tracker.dir = .stopped ∧ (resumable angle standingBar).node.windowsOk = true
      ∧ (resumable angle standingBar).queue.current = some (record 2)
      ∧ (resumable angle standingBar).bars[(0 : BarIx)].mode = .motion
      ∧ (resumable angle standingBar).node.edgeAngle 0 .underlapStart = some 200
      ∧ (resumable angle standingBar).node.edgeAngle 0 .overlapStart = some 560
      ∧ (resumable angle standingBar).rampOf standingBar = some [500])
    ∧ (resumable 100 movingBar).bars[(0 : BarIx)].motion = movingBar.motion
    ∧ (at' .running 0 []).node.state ≠ .hold := by
  unfold State.takesService; decide

theorem witness_SetupMotionTaken :
    (let s := (ready.setBar 15 { Bar.initial with mode := .jog }).setBar 0 { standingBar with mode := .jog }
     s.takesService ∧ (15 : Byte).toNat = (15 : BarIx).val ∧ s.bars[(15 : BarIx)].mode = .jog
       ∧ s.bars[(15 : BarIx)].motion = .still ∧ s.bars[(15 : BarIx)].referenced = false
       ∧ s.bars[(0 : BarIx)].referenced = true ∧ s.rampOf s.bars[(0 : BarIx)] = some [500]
       ∧ (s.classOf s.bars[(0 : BarIx)]).state = .valid ∧ s.bars[(1 : BarIx)].mode ≠ .jog)
    ∧ (let s := (ready.setBar 0 { movingBar with mode := .jog }).setBar 1 { Bar.initial with mode := .jog, cls := 1 }
       let u := { s with engine := { s.engine with classes := s.engine.classes.set 1 DriveClass.initial } }
       u.takesService ∧ u.bars[(0 : BarIx)].mode = .jog ∧ u.bars[(0 : BarIx)].motion ≠ .still
       ∧ u.bars[(1 : BarIx)].mode = .jog ∧ u.bars[(1 : BarIx)].motion = .still ∧ u.rampOf u.bars[(1 : BarIx)] = none
       ∧ (u.classOf u.bars[(1 : BarIx)]).state ≠ .valid ∧ 16 ≤ (16 : Byte).toNat)
    ∧ ((-4096 : Word).toInt = -4096 ∧ (4095 : Word).toInt = 4095 ∧ (-4097 : Word).toInt < -4096 ∧ 4095 < (4096 : Word).toInt) := by
  unfold State.takesService; decide

theorem witness_ReportsAndClears :
    ready.takesService ∧ (3 : Byte).toNat ≤ 3 ∧ 4 ≤ (4 : Byte).toNat ∧ (15 : Byte).toNat < 16 ∧ 16 ≤ (16 : Byte).toNat
      ∧ (∀ n ∈ [32, 16, 12, 19, 6], (env (List.replicate n 0)).data.length = n) ∧ (env []).data = []
      ∧ (env []).data.length ≠ 6
      ∧ (at' .running 0 [record 3]).takesService ∧ (at' .running 0 [record 3]).queue.pending = [] ++ record 3 :: [] := by
  unfold State.takesService; decide

theorem witness_LoadAndReadTaken :
    ready.takesService ∧ ready.store.state = .ready ∧ State.reset.takesService ∧ State.reset.store.state = .clearing
      ∧ (let count : Byte := 32
         (env (List.replicate 32 0)).data.length = count.toNat ∧ 1 ≤ count.toNat ∧ count.toNat ≤ 32
         ∧ (66656 : BitVec 24).toNat + count.toNat - 1 = 66687 ∧ 66687 < (66657 : BitVec 24).toNat + count.toNat - 1)
      ∧ (0 : Byte).toNat < 1 ∧ 32 < (33 : Byte).toNat
      ∧ (let s := { ready with engine := { ready.engine with
            classes := ready.engine.classes.set 3 { goodClass with state := .computing } } }
         s.takesService ∧ s.engine.classes[(3 : ClassIx)].state = .computing
         ∧ 66560 + 32 * (3 : ClassIx).val ≤ (66687 : BitVec 24).toNat) := by
  unfold State.takesService; decide

/-- Right after reset each invariant holds, and a step answers a next state. -/
theorem witness_StepKeepsInvariants :
    NodeInv State.reset ∧ TrackerInv State.reset ∧ StoreInv State.reset ∧ QueueInv State.reset
      ∧ (∃ t, step { State.reset with pending := [.stepPulseEnd 0] } = .next t) := by
  refine ⟨?_, ?_, ?_, ⟨by decide, by decide, ⟨rfl, rfl, rfl⟩, trivial, by decide⟩, _, rfl⟩
    <;> simp only [NodeInv, TrackerInv, StoreInv] <;> decide

theorem witness_StepKeepsEngineInv : EngineInv State.reset := by
  have h : ∀ c : ClassIx, State.reset.engine.classes[c] = DriveClass.initial := fun c => by
    simp [State.reset, State.poweredOn, Engine.initial]
  refine ⟨fun c => ?_, fun c hc => ?_, fun j hj => by cases hj⟩
  · rw [h]
    exact ⟨by decide, by decide, by decide, by decide, nofun, nofun⟩
  · rw [h] at hc
    cases hc

theorem witness_StepKeepsBarsInv : BarsInv State.reset := by
  refine ⟨fun n => ?_, fun hn => absurd rfl hn, nofun⟩
  have h : State.reset.bars[n] = Bar.initial := by simp [State.reset, State.poweredOn]
  rw [h]
  exact ⟨⟨fun _ => ⟨rfl, rfl, rfl⟩, rfl, rfl⟩, nofun, fun hn => absurd rfl hn⟩

theorem witness_GuardEnableStays :
    (let s := { ready with node := { ready.node with guardEnable := true } }
     s.node.guardEnable = true ∧ exec .ringSilence s = .next s ∧ s.pending = [] ∧ ∃ t, step s = .next t) :=
  ⟨rfl, rfl, rfl, _, rfl⟩

end Sys2Proof.Tests
end

-- ==== The tracker in its ranges (O55) ====
namespace Sys2Proof.Machine


/-! ### The tracker's ranges (chapter 1) -/

/-- The ranges of chapter 1, of the tracker alone. -/
def Tracker.inRange (t : Tracker) : Prop :=
  t.angle ≤ 1439 ∧ t.recross ≤ 4 ∧ t.sinceIndex ≤ 1449 ∧ t.period ≤ 16777215
    ∧ t.tMeas ≤ 16777215 ∧ 2 ≤ t.timeout ∧ t.timeout ≤ 255

theorem trackerInv_iff (s : State) : TrackerInv s ↔ s.tracker.inRange := Iff.rfl

theorem TrackerInv.of_tracker_eq {s t : State} (h : TrackerInv s) (e : t.tracker = s.tracker) : TrackerInv t := by
  rw [trackerInv_iff, e]
  exact h

theorem Tracker.initial_inRange (a b : Bool) : (Tracker.initial a b).inRange := by
  simp [Tracker.inRange, Tracker.initial, saturated]

theorem nextAngle_le {v : Nat} (h : v ≤ 1439) (forward : Bool) : nextAngle v forward ≤ 1439 := by
  unfold nextAngle
  split <;> split <;> omega

theorem Tracker.recrossAfter_le (t : Tracker) (forward : Bool) : t.recrossAfter forward ≤ t.recross := by
  unfold Tracker.recrossAfter
  split <;> omega

/-- While no index is overdue an increment counts to 1449 at most (R12). -/
theorem Tracker.sinceAfter_le {t : Tracker} (h : t.sinceIndex ≤ 1449) (hd : t.indexOverdue = false)
    (forward index : Bool) : t.sinceAfter forward index ≤ 1449 := by
  unfold Tracker.sinceAfter
  split
  · omega
  · rename_i hv
    have : t.angleValid = true := by simpa using fun e => hv (Or.inl e)
    have hd : ¬ missingAt ≤ t.sinceIndex := by simpa [Tracker.indexOverdue, this] using hd
    unfold missingAt at hd
    split <;> omega

theorem Tracker.advance_inRange {t : Tracker} (h : t.inRange) (hd : t.indexOverdue = false)
    (forward index level : Bool) : (t.advance forward index level).inRange := by
  obtain ⟨hangle, hrecross, hsince, hperiod, hmeas, htime⟩ := h
  exact ⟨nextAngle_le hangle forward, (t.recrossAfter_le forward).trans hrecross, sinceAfter_le hsince hd forward index,
    hperiod, hmeas, htime⟩

/-- Every correction gives a counter value in range and a re-cross count of at most 4 (R7 to R9). -/
theorem correctionOf_inRange (forward : Bool) {v : Nat} (h : v ≤ 1439) :
    (correctionOf forward v).angle ≤ 1439 ∧ (correctionOf forward v).recross ≤ 4 := by
  unfold correctionOf
  split
  · unfold forwardCorrection
    split
    · exact ⟨Nat.zero_le _, by assumption⟩
    · split <;> exact ⟨Nat.zero_le _, Nat.zero_le _⟩
  · unfold reverseCorrection
    split
    · exact ⟨Nat.le_refl _, by show 1439 - v ≤ 4; omega⟩
    · split <;> exact ⟨Nat.le_refl _, Nat.zero_le _⟩

theorem Tracker.corrected_inRange {t : Tracker} (h : t.inRange) (forward : Bool) {c : Correction}
    (hc : c.angle ≤ 1439 ∧ c.recross ≤ 4) : (t.corrected forward c).inRange := by
  obtain ⟨-, -, hrest⟩ := h
  exact ⟨hc.1, hc.2, hrest⟩

theorem Tracker.capture_inRange {t : Tracker} (h : t.inRange) : t.capture.inRange := by
  obtain ⟨hangle, hrecross, hsince, hperiod, -, htime⟩ := h
  refine ⟨hangle, hrecross, hsince, Nat.zero_le _, ?_, htime⟩
  show t.captured ≤ 16777215
  unfold Tracker.captured saturated
  split <;> omega

theorem Tracker.validate_inRange {t : Tracker} (h : t.inRange) (forward : Bool) : (t.validate forward).inRange := by
  obtain ⟨-, -, -, hperiod, hmeas, htime⟩ := h
  unfold Tracker.validate
  split
  · exact ⟨Nat.zero_le _, Nat.zero_le _, Nat.zero_le _, Nat.zero_le _, Nat.le_refl _, htime⟩
  · exact ⟨Nat.le_refl _, Nat.zero_le _, Nat.zero_le _, hperiod, hmeas, htime⟩

theorem Tracker.tick_inRange {t : Tracker} (h : t.inRange) : t.tick.inRange := by
  obtain ⟨hangle, hrecross, hsince, -, hrest⟩ := h
  exact ⟨hangle, hrecross, hsince, Nat.min_le_left _ _, hrest⟩

/-- An increment taken while no index is overdue keeps the ranges. -/
theorem State.takeIncrement_trackerInv {s : State} (h : TrackerInv s) (hd : s.tracker.indexOverdue = false)
    (forward level : Bool) : TrackerInv (s.takeIncrement forward level) := by
  have hmoved := Tracker.advance_inRange h hd forward (level && !s.tracker.indexWas) level
  rw [trackerInv_iff, State.takeIncrement_tracker]
  cases hc : correctionAt s.tracker forward (level && !s.tracker.indexWas) with
  | some c =>
    have hbound : c.angle ≤ 1439 ∧ c.recross ≤ 4 := by
      unfold correctionAt at hc
      split at hc
      · cases hc
        exact correctionOf_inRange forward (nextAngle_le h.1 forward)
      · cases hc
    have hcorr := Tracker.corrected_inRange hmoved forward hbound
    simp only []
    split
    · exact Tracker.capture_inRange hcorr
    · exact hcorr
  | none =>
    simp only []
    split
    · exact Tracker.validate_inRange hmoved forward
    · exact hmoved

/-- A missing index leaves none overdue, and so does its settlement. -/
theorem State.settleIndex_notOverdue (s : State) : s.settleIndex.tracker.indexOverdue = false := by
  unfold State.settleIndex
  split
  · rfl
  · simpa using ‹¬ s.tracker.indexOverdue = true›

theorem State.settleIndex_trackerInv {s : State} (h : TrackerInv s) : TrackerInv s.settleIndex := by
  unfold State.settleIndex
  split
  · obtain ⟨hangle, -, -, hrest⟩ := h
    exact ⟨hangle, Nat.zero_le _, Nat.zero_le _, hrest⟩
  · exact h

/-! ### What a service operation does to the tracker -/

/-- Of the service operations the standstill timeout's SET_PARAM alone reaches the tracker (R15). -/
theorem immediateOp_tracker (op : ServiceOp) (data : List Word) (s : State) :
    (immediateOp op data s).1.tracker = s.tracker
      ∨ ∃ n, 2 ≤ n ∧ n ≤ 255 ∧ (immediateOp op data s).1.tracker = { s.tracker with timeout := n } := by
  have rf : ∀ {r : State × Reply}, refusedBy s r → r.1.tracker = s.tracker := fun hr => by rw [hr.1]
  unfold immediateOp
  split
  · exact Or.inl rfl
  · rename_i hcount
    clear hcount
    cases op
    case setStandstillTimeout v =>
      rcases opSetStandstillTimeout_cases v s with e | ⟨n, hn, e⟩
      · exact Or.inl (rf e)
      · obtain ⟨hlo, hhi, rfl⟩ := inRange_some.mp hn
        exact Or.inr ⟨_, hlo, hhi, by dsimp only; rw [e]⟩
    all_goals
      left
      dsimp only
    case load => rcases opLoad_cases _ _ data s with e | ⟨-, e⟩; exact rf e; rw [e]; simp
    case getParam => rcases opGetParam_cases _ _ s with e | ⟨_, -, e⟩; exact rf e; rw [e]
    case setRowCount bank v => rcases opSetRowCount_cases bank v s with e | ⟨_, -, e⟩; exact rf e; rw [e]; cases bank <;> rfl
    case setMargin v => rcases opSetMargin_cases v s with e | ⟨_, -, e⟩; exact rf e; rw [e]
    case setWindow w v => rcases opSetWindow_cases w v s with e | ⟨_, -, -, e⟩; exact rf e; rw [e]
    case setGuardEnable v =>
      rcases opSetGuardEnable_cases v s with e | ⟨-, e⟩ | ⟨-, -, e⟩; exact rf e; all_goals rw [e]
    case setDiagnosticCheckMode v =>
      rcases opSetDiagMode_cases v s with e | ⟨-, -, e⟩ | ⟨-, e⟩; exact rf e; all_goals rw [e]
    case setDiagnosticCheckValue v => rcases opSetDiagValue_cases v s with e | ⟨_, -, e⟩; exact rf e; rw [e]
    case setStepsPerNeedle b v => rcases opSetSpn_cases b v s with e | ⟨_, _, -, -, -, -, e⟩; exact rf e; rw [e]
    case setRampLength b v => rcases opSetRampLength_cases b v s with e | ⟨_, _, -, -, -, e⟩; exact rf e; rw [e]
    case setMode b v => rcases opSetMode_cases b v s with e | ⟨_, _, -, -, -, -, e⟩; exact rf e; rw [e]; rfl
    case setClass b v => rcases opSetClass_cases b v s with e | ⟨_, _, -, -, -, -, -, e⟩; exact rf e; rw [e]; rfl
    case setLapSet b v => rcases opSetLapSet_cases b v s with e | ⟨_, _, -, -, -, e⟩; exact rf e; rw [e]; rfl
    case setTravelLimit b v => rcases opSetTravelLimit_cases b v s with e | ⟨_, _, -, -, -, -, -, e⟩; exact rf e; rw [e]; rfl
    case setTrim b v => rcases opSetTrim_cases b v s with e | ⟨_, _, -, -, e⟩; exact rf e; rw [e]; rfl
    case setHomePosition b v => rcases opSetHomePosition_cases b v s with e | ⟨_, _, -, -, e⟩; exact rf e; rw [e]; rfl
    case setHomePolarity b v => rcases opSetHomePolarity_cases b v s with e | ⟨_, _, -, -, e⟩; exact rf e; rw [e]; rfl
    case commitClass c =>
      rcases opCommitClass_cases c s with e | ⟨_, -, -, -, -, e⟩; exact rf e; rw [e]; simp [State.beginCommit]
    case arm tag => rcases opArm_cases tag s with e | ⟨-, -, -, -, e⟩; exact rf e; rw [e]; rfl
    case resume => rcases opResume_cases s with e | ⟨-, -, -, e⟩; exact rf e; rw [e, State.beginCatchup_eq]; simp
    case restart => rcases opRestart_cases s with e | ⟨-, -, e⟩; exact rf e; rw [e]; rfl
    case jog b v =>
      rcases opJog_cases b v s with e | ⟨_, _, _, -, -, -, -, -, e⟩
      · exact rf e
      · rw [e]
        unfold jogReferenced jogUnreferenced
        simp only []
        repeat' split
        all_goals rfl
    case reference b => rcases opReference_cases b s with e | ⟨_, -, -, -, -, e⟩; exact rf e; rw [e]; rfl
    case getStatus => rw [opGetStatus_state]
    case getFaults => rw [opGetFaults_state]
    case clearFault t b =>
      rcases opClearFault_cases t b s with e | ⟨-, e⟩ | ⟨_, -, -, e⟩ | ⟨-, e⟩ | ⟨-, e⟩; exact rf e; all_goals rw [e]
    all_goals rfl

theorem immediateOp_trackerInv (op : ServiceOp) (data : List Word) (s : State) (h : TrackerInv s) :
    TrackerInv (immediateOp op data s).1 := by
  rcases immediateOp_tracker op data s with e | ⟨n, hlo, hhi, e⟩
  · exact h.of_tracker_eq e
  · obtain ⟨hangle, hrecross, hsince, hperiod, hmeas, -⟩ := h
    rw [trackerInv_iff, e]
    exact ⟨hangle, hrecross, hsince, hperiod, hmeas, hlo, hhi⟩

@[simp] theorem State.beginRead_tracker (s : State) (start : BitVec 24) (count : Byte) (d : Deferred) :
    (s.beginRead start count d).tracker = s.tracker := by
  simp [State.beginRead]

/-- A request that is taken keeps the ranges. -/
theorem State.takeRequest_trackerInv {s : State} (h : TrackerInv s) (d : Deferred) : TrackerInv (s.takeRequest d) :=
  State.takeRequest_keeps (fun _ _ h => h) immediateOp_trackerInv
    (fun s a c d h => h.of_tracker_eq (s.beginRead_tracker a c d)) h d

/-- A request that arrives keeps the ranges. -/
theorem State.serviceRequest_trackerInv {s : State} (h : TrackerInv s) (op : ServiceOp) (env : Envelope) :
    TrackerInv (s.serviceRequest op env) :=
  State.serviceRequest_keeps (fun _ _ h => h) immediateOp_trackerInv
    (fun s a c d h => h.of_tracker_eq (s.beginRead_tracker a c d)) h op env

/-! ### What the ring brings -/

@[simp] theorem State.courseFrame_tracker (s : State) (f : CourseFrame) : (s.courseFrame f).tracker = s.tracker := by
  unfold State.courseFrame
  split
  · rfl
  · simp only []
    split
    · rfl
    · rw [State.handOver_tracker]
      rfl

theorem State.serviceFrame_trackerInv {s : State} (h : TrackerInv s) (f : ServiceFrame) :
    TrackerInv (s.serviceFrame f) := by
  unfold State.serviceFrame
  split
  · exact h
  · split
    · exact State.serviceRequest_trackerInv h _ _
    · exact h

theorem State.takeOrDefer_trackerInv {s : State} (h : TrackerInv s) (d : Deferred) : TrackerInv (s.takeOrDefer d) := by
  unfold State.takeOrDefer
  split
  · exact h
  · exact State.takeRequest_trackerInv h d

theorem State.corruptAddressed_trackerInv {s : State} (h : TrackerInv s) (ticket : Nat) (j : Judgement)
    (cs : List Byte) : TrackerInv (s.corruptAddressed ticket j cs) := by
  unfold State.corruptAddressed
  simp only []
  split
  · split
    · exact State.takeOrDefer_trackerInv h _
    · exact h
  · exact h
  · split <;> exact h

theorem State.corrupt_trackerInv {s : State} (h : TrackerInv s) (j : Judgement) (cs : List Byte) :
    TrackerInv (s.corrupt j cs) := by
  unfold State.corrupt
  simp only []
  split
  · refine State.corruptAddressed_trackerInv ?_ _ _ _
    exact h
  · exact h

theorem State.receive_trackerInv {s : State} (h : TrackerInv s) (chars : List RxChar) : TrackerInv (s.receive chars) := by
  unfold State.receive
  split
  · exact h
  · split
    · exact h
    · exact h.of_tracker_eq (State.courseFrame_tracker _ _)
    · exact State.serviceFrame_trackerInv h _
    · exact State.corrupt_trackerInv h _ _

/-! ### Every command -/

theorem execIncrement_trackerInv {s t : State} (h : TrackerInv s) (a b level : Bool)
    (ht : execIncrement a b level s = .next t) : TrackerInv t := by
  have taken : ∀ forward, TrackerInv ((s.settleIndex.adoptLevels a b).takeIncrement forward level) := fun forward =>
    State.takeIncrement_trackerInv (s := s.settleIndex.adoptLevels a b) (State.settleIndex_trackerInv h)
      s.settleIndex_notOverdue forward level
  unfold execIncrement at ht
  cases ht
  split
  · exact h
  · split
    · exact h
    · exact h
    · exact taken true
    · exact taken false

theorem execStandstillExpiry_trackerInv {s t : State} (h : TrackerInv s) (ht : execStandstillExpiry s = .next t) :
    TrackerInv t := by
  unfold execStandstillExpiry at ht
  cases ht
  split
  · obtain ⟨hangle, hrecross, hsince, hperiod, -, htime⟩ := h
    exact ⟨hangle, hrecross, hsince, hperiod, Nat.le_refl _, htime⟩
  · exact h

theorem execResetEnd_trackerInv {s t : State} (h : TrackerInv s) (straps : BitVec 3) (a b : Bool)
    (ht : execResetEnd straps a b s = .next t) : TrackerInv t := by
  cases ht
  obtain ⟨hangle, hrecross, hsince, -, hrest⟩ := h
  exact ⟨hangle, hrecross, hsince, Nat.zero_le _, hrest⟩

theorem execDeferredServiceOp_trackerInv {s t : State} (h : TrackerInv s) (homes : BitVec 16)
    (ht : execDeferredServiceOp homes s = .next t) : TrackerInv t := by
  unfold execDeferredServiceOp at ht
  simp only [] at ht
  split at ht
  · cases ht
    exact h
  · cases ht
    split
    · exact h
    · refine State.takeRequest_trackerInv ?_ _
      exact h

/-- The events of the store, the classes, the expansion and the bars, and the ring's status, leave the tracker. -/
theorem exec_event_tracker {i : Instr} (hi : i = .storeClearDone ∨ i = .wordAccessComplete ∨ i = .commitSwap
      ∨ i = .expansionComplete ∨ (∃ n, i = .stepPulse n) ∨ (∃ n, i = .stepPulseEnd n) ∨ (∃ n, i = .moveComplete n)
      ∨ (∃ n homes, i = .searchSample n homes) ∨ i = .ringBreak ∨ i = .ringSilence)
    {s t : State} (ht : exec i s = .next t) : t.tracker = s.tracker := by
  rcases hi with rfl | rfl | rfl | rfl | ⟨n, rfl⟩ | ⟨n, rfl⟩ | ⟨n, rfl⟩ | ⟨n, homes, rfl⟩ | rfl | rfl
  · cases ht
    split <;> simp
  · change execWordAccessComplete s = .next t at ht
    unfold execWordAccessComplete at ht
    split at ht
    · cases ht; rfl
    · split at ht <;> cases ht
      simp
  · change execCommitSwap s = .next t at ht
    unfold execCommitSwap State.rePlan at ht
    split at ht
    · cases ht; rfl
    · split at ht <;> cases ht
      · rfl
      · split <;> rfl
  · change execExpansionComplete s = .next t at ht
    unfold execExpansionComplete at ht
    split at ht
    · cases ht; rfl
    · split at ht <;> cases ht
      · simp
      · rfl
  · change execStepPulse n s = .next t at ht
    unfold execStepPulse at ht
    split at ht <;> cases ht
    · split <;> rfl
    · rfl
    · rfl
  · cases ht; rfl
  · change execMoveComplete n s = .next t at ht
    unfold execMoveComplete at ht
    split at ht <;> cases ht
    · split <;> simp
    · rfl
    · rfl
  · change execSearchSample n homes s = .next t at ht
    unfold execSearchSample at ht
    simp only [] at ht
    split at ht <;> cases ht
    · simp
    · rfl
    · rfl
  · cases ht
    split <;> rfl
  · cases ht
    split <;> rfl

theorem exec_trackerInv {i : Instr} {s t : State} (h : TrackerInv s) (ht : exec i s = .next t) : TrackerInv t := by
  have service : ∀ op env, i.request = some (op, env) → TrackerInv t := fun op env hreq => by
    rw [exec_request hreq] at ht
    cases ht
    exact State.serviceRequest_trackerInv (s := { s with homes := i.homesSeen s.homes }) h op env
  cases i
  case powerOn => cases ht; exact Tracker.initial_inRange _ _
  case pinReset => cases ht; exact Tracker.initial_inRange _ _
  case resetEnd => exact execResetEnd_trackerInv h _ _ _ ht
  case increment => exact execIncrement_trackerInv h _ _ _ ht
  case indexMissing => cases ht; exact State.settleIndex_trackerInv h
  case standstillExpiry => exact execStandstillExpiry_trackerInv h ht
  case courseFrame => cases ht; exact h.of_tracker_eq (State.courseFrame_tracker _ _)
  case corruptFrame => cases ht; exact State.receive_trackerInv h _
  case serviceFramePass => cases ht; exact State.serviceFrame_trackerInv h _
  case deferredServiceOp => exact execDeferredServiceOp_trackerInv h _ ht
  case storeClearDone | wordAccessComplete | commitSwap | expansionComplete | stepPulse | stepPulseEnd | moveComplete
      | searchSample | ringBreak | ringSilence => exact h.of_tracker_eq (exec_event_tracker (by simp) ht)
  all_goals exact service _ _ rfl

@[simp] theorem State.queueDue_tracker (s : State) (es : List Instr) : (s.queueDue es).tracker = s.tracker := by
  unfold State.queueDue
  split <;> rfl

theorem State.idle_trackerInv {s : State} (h : TrackerInv s) : TrackerInv s.idle := by
  unfold State.idle
  simp only []
  split
  · rw [trackerInv_iff, State.queueDue_tracker]
    exact Tracker.tick_inRange h
  · exact h.of_tracker_eq (State.queueDue_tracker _ _)

/-- Settles O55: the ranges are kept by every command that runs and by the passing of time. -/
theorem stepKeepsTrackerInv : Obligations.StepKeepsTrackerInv := by
  intro s t h ht
  unfold step at ht
  split at ht
  · refine exec_trackerInv ?_ ht
    exact h
  · cases ht
    exact State.idle_trackerInv h

end Sys2Proof.Machine


-- ==== Resets (O3, O4, O5) ====
namespace Sys2Proof.Machine

/-! ### The blocks in their reset state -/

theorem Bar.initial_inv : Bar.initial.inv := ⟨fun _ => ⟨rfl, rfl, rfl⟩, rfl, rfl⟩

theorem DriveClass.initial_inv : DriveClass.initial.inv :=
  ⟨by decide, by decide, by decide, by decide, nofun, nofun⟩

theorem State.reset_bar (n : BarIx) : State.reset.bars[n] = Bar.initial := by
  simp [State.reset, State.poweredOn]

theorem State.reset_class (c : ClassIx) : State.reset.engine.classes[c] = DriveClass.initial := by
  simp [State.reset, State.poweredOn, Engine.initial]

theorem Faults.initial_bars (n : BarIx) : Faults.initial.bars[n] = none := by
  simp [Faults.initial]

/-- A bar after a pin reset (R119, R132). -/
theorem State.pinReset_bar (s : State) (n : BarIx) : s.pinReset.bars[n] = { Bar.initial with dirHigh := s.bars[n].dirHigh } :=
  mapBars_get s.bars Bar.pinReset n.val n.isLt

/-! ### A frame cut short (R175, R184) -/

/-- The frame at the front of the forwarding store whose form is not known has left up to the first character held. -/
theorem Ring.headSent_of_held {r : Ring} {ticket : Nat} {received : List Byte} {rest : List Forward}
    (h : r.forwarding = ⟨ticket, received, none⟩ :: rest) :
    r.headSent = some (received.take (heldFrom r.address received)) := by
  rw [Ring.headSent, h]

/-- A course frame is held from its first status slot on. -/
theorem heldFrom_course (address : Nat) {f : CourseFrame} (h : f.overrides.length ≤ 255) :
    heldFrom address (cleanFrameOf (courseBody f)) = 8 + 3 * f.overrides.length := by
  have kind : (cleanFrameOf (courseBody f)).getD 1 0 = kindCourse := rfl
  have count : (cleanFrameOf (courseBody f)).getD 7 0 = BitVec.ofNat 8 f.overrides.length := rfl
  rw [heldFrom, if_pos kind, count, BitVec.toNat_ofNat, Nat.mod_eq_of_lt (by omega)]

/-- A request for this node is held from its kind on. -/
theorem heldFrom_request {address : Nat} {f : ServiceFrame} (hf : f.reply = false) (hd : f.dest.toNat = address) :
    heldFrom address (cleanFrameOf (serviceBody f)) = 1 := by
  have kind : (cleanFrameOf (serviceBody f)).getD 1 0 = kindRequest := by
    have : (cleanFrameOf (serviceBody f)).getD 1 0 = if f.reply then kindReply else kindRequest := rfl
    rw [this, hf]
    rfl
  have dest : (cleanFrameOf (serviceBody f)).getD 2 0 = f.dest := rfl
  rw [heldFrom, kind, dest, if_neg (by decide), if_pos ⟨rfl, hd⟩]

theorem Ring.pinReset_sent (r : Ring) : r.pinReset.sent = r.sent ++ r.headSent.toList := rfl

/-! ### While the reset input is active (R184) -/

theorem State.courseFrame_inReset {s : State} (h : s.inReset = true) (f : CourseFrame) : s.courseFrame f = s := by
  rw [State.courseFrame, if_pos h]

theorem State.serviceFrame_inReset {s : State} (h : s.inReset = true) (f : ServiceFrame) : s.serviceFrame f = s := by
  rw [State.serviceFrame, if_pos h]

theorem State.receive_inReset {s : State} (h : s.inReset = true) (cs : List RxChar) : s.receive cs = s := by
  rw [State.receive, if_pos h]

theorem State.serviceRequest_inReset {s : State} (h : s.inReset = true) (op : ServiceOp) (env : Envelope) :
    s.serviceRequest op env = s := by
  rw [State.serviceRequest, if_pos h]

theorem exec_increment_inReset {s : State} (h : s.inReset = true) (a b level : Bool) :
    exec (.increment a b level) s = .next s := by
  show execIncrement a b level s = .next s
  rw [execIncrement, if_pos h]

/-- A service command while the reset input is active leaves the levels of the home inputs it samples, nothing else. -/
theorem exec_request_inReset {i : Instr} {op : ServiceOp} {env : Envelope} (hi : i.request = some (op, env)) {s : State}
    (h : s.inReset = true) : exec i s = .next { s with homes := i.homesSeen s.homes } := by
  rw [exec_request hi]
  exact congrArg _ (State.serviceRequest_inReset (s := { s with homes := i.homesSeen s.homes }) h op env)

/-! ### The obligations -/

/-- Settles O3: the state after power-on, field by field. -/
theorem powerOnResetsEveryBlock : Obligations.PowerOnResetsEveryBlock := by
  intro straps a b homes s
  refine ⟨_, rfl, rfl, rfl, rfl, rfl, rfl, rfl, rfl, rfl, rfl, rfl, rfl, rfl, rfl, rfl, rfl, rfl, rfl, rfl, rfl, rfl, rfl,
    rfl, rfl, rfl, rfl, State.reset_class, rfl, rfl, State.reset_bar, rfl, rfl, Faults.initial_bars, rfl, rfl, rfl, rfl,
    rfl, rfl, rfl, rfl, rfl, rfl, rfl⟩

/-- Settles O4: the state after a pin reset by field, what a held frame has sent, and what the commands do until its end. -/
theorem pinResetAndItsEnd : Obligations.PinResetAndItsEnd := by
  intro s
  have active : s.pinReset.inReset = true := rfl
  refine ⟨s.pinReset, rfl, rfl, rfl, rfl, rfl, rfl, rfl, rfl, s.pinReset_bar, rfl, rfl, rfl, rfl, rfl, ?_, ?_, ?_, rfl,
    exec_increment_inReset active, ?_, ?_, ?_, fun _ _ _ hi => exec_request_inReset hi active, fun _ _ _ => rfl⟩
  · intro h
    show s.ring.pinReset.sent = _
    rw [Ring.pinReset_sent, Ring.headSent, h]
    exact List.append_nil _
  · intro f ticket rest hlen h
    show s.ring.pinReset.sent = _
    rw [Ring.pinReset_sent, Ring.headSent_of_held h, heldFrom_course _ hlen]
    rfl
  · intro f ticket rest hf hd h
    show s.ring.pinReset.sent = _
    rw [Ring.pinReset_sent, Ring.headSent_of_held h, heldFrom_request (address := s.ring.address) hf hd]
    rfl
  · exact fun f => congrArg _ (State.courseFrame_inReset active f)
  · exact fun f => congrArg _ (State.serviceFrame_inReset active f)
  · exact fun cs => congrArg _ (State.receive_inReset active cs)

/-- Settles O5: no record is held and every block is in its reset state. -/
theorem resetMeetsInvariants : Obligations.ResetMeetsInvariants := by
  refine ⟨⟨rfl, nofun, fun _ => rfl⟩, ?_, ⟨rfl, Nat.zero_le _⟩,
    ⟨Nat.zero_le _, Nat.zero_le _, ⟨rfl, rfl, rfl⟩, trivial, rfl⟩, ⟨?_, ?_, nofun⟩, ⟨?_, fun hn => absurd rfl hn, nofun⟩⟩
  · unfold TrackerInv
    decide
  · intro c
    rw [State.reset_class]
    exact DriveClass.initial_inv
  · intro c hc
    rw [State.reset_class] at hc
    cases hc
  · intro n
    rw [State.reset_bar]
    exact ⟨Bar.initial_inv, nofun, fun hn => absurd rfl hn⟩

end Sys2Proof.Machine


-- ==== Node parameters (O45) ====
namespace Sys2Proof.Machine

/-! ### The parameters' own rules -/

theorem inRange_of_le {lo hi : Nat} {v : Word} (h1 : lo ≤ v.toNat) (h2 : v.toNat ≤ hi) : inRange lo hi v = some v.toNat :=
  inRange_some.mpr ⟨h1, h2, rfl⟩

theorem flagOf_none {v : Word} (h : 2 ≤ v.toNat) : flagOf v = none := by
  have h0 : v ≠ 0 := by rintro rfl; exact absurd h (by decide)
  have h1 : v ≠ 1 := by rintro rfl; exact absurd h (by decide)
  rw [flagOf, if_neg h0, if_neg h1]

theorem opSetRowCount_a {v : Word} (h1 : 1 ≤ v.toNat) (h2 : v.toNat ≤ 4096) (s : State) :
    opSetRowCount .a v s = ({ s with expander := { s.expander with rowCountA := v.toNat } }, .only .done) := by
  rw [opSetRowCount, inRange_of_le h1 h2]
  rfl

theorem opSetRowCount_b {v : Word} (h1 : 1 ≤ v.toNat) (h2 : v.toNat ≤ 4096) (s : State) :
    opSetRowCount .b v s = ({ s with expander := { s.expander with rowCountB := v.toNat } }, .only .done) := by
  rw [opSetRowCount, inRange_of_le h1 h2]
  rfl

theorem opSetRowCount_range {v : Word} (h : v.toNat < 1 ∨ 4096 < v.toNat) (bank : Bank) (s : State) :
    opSetRowCount bank v s = (s, .only .range) := by
  rw [opSetRowCount, inRange_none.mpr h]
  rfl

theorem opSetMargin_done {v : Word} (h : v.toNat ≤ 64) (s : State) :
    opSetMargin v s = ({ s with node := { s.node with margin := v.toNat } }, .only .done) := by
  rw [opSetMargin, inRange_of_le (Nat.zero_le _) h]
  rfl

theorem opSetMargin_range {v : Word} (h : 64 < v.toNat) (s : State) : opSetMargin v s = (s, .only .range) := by
  rw [opSetMargin, inRange_none.mpr (Or.inr h)]
  rfl

theorem opSetStandstillTimeout_done {v : Word} (h1 : 2 ≤ v.toNat) (h2 : v.toNat ≤ 255) (s : State) :
    opSetStandstillTimeout v s = ({ s with tracker := { s.tracker with timeout := v.toNat } }, .only .done) := by
  rw [opSetStandstillTimeout, inRange_of_le h1 h2]
  rfl

theorem opSetStandstillTimeout_range {v : Word} (h : v.toNat < 2 ∨ 255 < v.toNat) (s : State) :
    opSetStandstillTimeout v s = (s, .only .range) := by
  rw [opSetStandstillTimeout, inRange_none.mpr h]
  rfl

/-- A value in a window parameter's range (R120). -/
def windowFits (w : WindowParam) (v : Word) : Prop := (windowRange w).1 ≤ v.toNat ∧ v.toNat ≤ (windowRange w).2

theorem opSetWindow_done {w : WindowParam} {v : Word} (h : windowFits w v) {s : State} (hs : s.node.state = .offline) :
    opSetWindow w v s = ({ s with node := s.node.setWindow w v.toNat }, .only .done) := by
  simp only [opSetWindow, inRange_of_le h.1 h.2, hs, ne_eq, not_true_eq_false, if_false]
  rfl

theorem opSetWindow_state {w : WindowParam} {v : Word} (h : windowFits w v) {s : State} (hs : s.node.state ≠ .offline) :
    opSetWindow w v s = (s, .only .state) := by
  simp only [opSetWindow, inRange_of_le h.1 h.2, ne_eq, hs, not_false_eq_true, if_true]
  rfl

theorem opSetWindow_range {w : WindowParam} {v : Word} (h : v.toNat < (windowRange w).1 ∨ (windowRange w).2 < v.toNat)
    (s : State) : opSetWindow w v s = (s, .only .range) := by
  rw [opSetWindow, inRange_none.mpr h]
  rfl

theorem opSetGuardEnable_one (s : State) :
    opSetGuardEnable 1 s = ({ s with node := { s.node with guardEnable := true } }, .only .done) := rfl

theorem opSetGuardEnable_zero (s : State) :
    opSetGuardEnable 0 s = (s, .only (if s.node.guardEnable then .state else .done)) := by
  show (if s.node.guardEnable = true then s.reply .state else s.reply .done) = _
  split <;> rfl

theorem opSetGuardEnable_range {v : Word} (h : 2 ≤ v.toNat) (s : State) : opSetGuardEnable v s = (s, .only .range) := by
  rw [opSetGuardEnable, flagOf_none h]
  rfl

theorem opSetDiagMode_one {s : State} (hs : s.node.state = .offline) :
    opSetDiagMode 1 s = ({ s with store := { s.store with diagMode := true } }, .only .done) := by
  have flag : flagOf 1 = some true := rfl
  simp only [opSetDiagMode, flag, hs, ne_eq, not_true_eq_false, if_false]
  rfl

theorem opSetDiagMode_one_state {s : State} (hs : s.node.state ≠ .offline) : opSetDiagMode 1 s = (s, .only .state) := by
  have flag : flagOf 1 = some true := rfl
  simp only [opSetDiagMode, flag, ne_eq, hs, not_false_eq_true, if_true]
  rfl

theorem opSetDiagMode_zero (s : State) :
    opSetDiagMode 0 s = ({ s with store := { s.store with diagMode := false } }, .only .done) := rfl

theorem opSetDiagMode_range {v : Word} (h : 2 ≤ v.toNat) (s : State) : opSetDiagMode v s = (s, .only .range) := by
  rw [opSetDiagMode, flagOf_none h]
  rfl

theorem opSetDiagValue_done {v : Word} (h : v.toNat ≤ 63) (s : State) :
    opSetDiagValue v s = ({ s with store := { s.store with diagValue := v.setWidth 6 } }, .only .done) := by
  rw [opSetDiagValue, inRange_of_le (Nat.zero_le _) h]
  rfl

theorem opSetDiagValue_range {v : Word} (h : 63 < v.toNat) (s : State) : opSetDiagValue v s = (s, .only .range) := by
  rw [opSetDiagValue, inRange_none.mpr (Or.inr h)]
  rfl

/-! ### The obligation -/

/-- Settles O45: each parameter's own rule, in the state with the request entered at the ring port. -/
theorem nodeParametersSet : Obligations.NodeParametersSet := by
  intro s env v h hdata
  have own : ∀ (i : Instr) (op : ServiceOp), i.request = some (op, env) → i.homesSeen s.homes = s.homes →
      (∀ start count, op ≠ .read start count) → ∀ s' rep,
      immediateOp op [] { s with ring := s.requestEntered op env } = (s', rep) →
      exec i s = .next { s' with ring := s.ringAnswered op env rep } := fun i op hi hh hop s' rep hown =>
    exec_answered_own i op hi h hh hop s' rep (by rw [hdata]; exact hown)
  have same : ∀ (i : Instr) (op : ServiceOp), i.request = some (op, env) → i.homesSeen s.homes = s.homes →
      (∀ start count, op ≠ .read start count) → ∀ rep,
      immediateOp op [] { s with ring := s.requestEntered op env } = ({ s with ring := s.requestEntered op env }, rep) →
      exec i s = .next (s.answered op env rep) := fun i op hi hh hop rep hown =>
    exec_answered_same i op hi h hh hop rep (by rw [hdata]; exact hown)
  have fits : ∀ w, (w = .us ∨ w = .os → v.toNat ≤ 1439) → (w = .ul ∨ w = .ol → 16 ≤ v.toNat ∧ v.toNat ≤ 720) →
      windowFits w v := by
    intro w h1 h2
    cases w
    · exact ⟨Nat.zero_le _, h1 (Or.inl rfl)⟩
    · exact h2 (Or.inl rfl)
    · exact ⟨Nat.zero_le _, h1 (Or.inr rfl)⟩
    · exact h2 (Or.inr rfl)
  refine ⟨fun h1 h2 => ⟨?_, ?_⟩, fun hr bank => ?_, fun hr => ?_, fun hr => ?_, fun h1 h2 => ?_, fun hr => ?_,
    fun hr hs => ⟨?_, ?_⟩, fun h1 h2 hs => ⟨?_, ?_⟩, fun w hs h1 h2 => ?_, fun w hr => ?_, ?_, ?_, fun hr => ?_, ?_, ?_, ?_,
    fun hr => ?_, fun hr => ?_, fun hr => ?_⟩
  · exact own _ (.setRowCount .a v) rfl rfl nofun _ _ (opSetRowCount_a h1 h2 _)
  · exact own _ (.setRowCount .b v) rfl rfl nofun _ _ (opSetRowCount_b h1 h2 _)
  · exact same _ (.setRowCount bank v) rfl rfl nofun _ (opSetRowCount_range hr bank _)
  · exact own _ (.setMargin v) rfl rfl nofun _ _ (opSetMargin_done hr _)
  · exact same _ (.setMargin v) rfl rfl nofun _ (opSetMargin_range hr _)
  · exact own _ (.setStandstillTimeout v) rfl rfl nofun _ _ (opSetStandstillTimeout_done h1 h2 _)
  · exact same _ (.setStandstillTimeout v) rfl rfl nofun _ (opSetStandstillTimeout_range hr _)
  · exact own _ (.setWindow .us v) rfl rfl nofun _ _ (opSetWindow_done ⟨Nat.zero_le _, hr⟩ hs)
  · exact own _ (.setWindow .os v) rfl rfl nofun _ _ (opSetWindow_done ⟨Nat.zero_le _, hr⟩ hs)
  · exact own _ (.setWindow .ul v) rfl rfl nofun _ _ (opSetWindow_done (w := .ul) ⟨h1, h2⟩ hs)
  · exact own _ (.setWindow .ol v) rfl rfl nofun _ _ (opSetWindow_done (w := .ol) ⟨h1, h2⟩ hs)
  · exact same _ (.setWindow w v) rfl rfl nofun _ (opSetWindow_state (fits w h1 h2) hs)
  · refine same _ (.setWindow w v) rfl rfl nofun _ (opSetWindow_range ?_ _)
    rcases hr with ⟨rfl | rfl, hr⟩ | ⟨rfl | rfl, hr⟩
    · exact Or.inr hr
    · exact Or.inr hr
    · exact hr
    · exact hr
  · rintro rfl
    exact own _ (.setGuardEnable 1) rfl rfl nofun _ _ (opSetGuardEnable_one _)
  · rintro rfl
    exact same _ (.setGuardEnable 0) rfl rfl nofun _ (opSetGuardEnable_zero _)
  · exact same _ (.setGuardEnable v) rfl rfl nofun _ (opSetGuardEnable_range hr _)
  · rintro rfl hs
    exact own _ (.setDiagnosticCheckMode 1) rfl rfl nofun _ _ (opSetDiagMode_one hs)
  · rintro rfl hs
    exact same _ (.setDiagnosticCheckMode 1) rfl rfl nofun _ (opSetDiagMode_one_state hs)
  · rintro rfl
    exact own _ (.setDiagnosticCheckMode 0) rfl rfl nofun _ _ (opSetDiagMode_zero _)
  · exact same _ (.setDiagnosticCheckMode v) rfl rfl nofun _ (opSetDiagMode_range hr _)
  · exact own _ (.setDiagnosticCheckValue v) rfl rfl nofun _ _ (opSetDiagValue_done hr _)
  · exact same _ (.setDiagnosticCheckValue v) rfl rfl nofun _ (opSetDiagValue_range hr _)

end Sys2Proof.Machine


-- ==== One increment, part by part (R1 to R17) ====
namespace Sys2Proof.Machine

/-! ### The command of one increment (R1) -/

/-- The state with the pair of levels of one increment adopted as the reference (R1). -/
def State.turnAdopted (s : State) (forward : Bool) : State :=
  s.adoptLevels (if forward then !s.tracker.levelB else s.tracker.levelB)
    (if forward then s.tracker.levelA else !s.tracker.levelA)

theorem quadChange_same (a b : Bool) : quadChange a b a b = .same := by
  cases a <;> cases b <;> rfl

theorem quadChange_double (a b : Bool) : quadChange a b (!a) (!b) = .double := by
  cases a <;> cases b <;> rfl

theorem quadChange_forward (a b : Bool) : quadChange a b (!b) a = .forward := by
  cases a <;> cases b <;> rfl

theorem quadChange_reverse (a b : Bool) : quadChange a b b (!a) = .reverse := by
  cases a <;> cases b <;> rfl

theorem State.samples.sinceIndex_lt {s : State} (h : s.samples) (hv : s.tracker.angleValid = true) :
    s.tracker.sinceIndex < 1449 := by
  obtain ⟨-, hd⟩ := h
  have : ¬ 1449 ≤ s.tracker.sinceIndex := fun e => hd ⟨hv, e⟩
  omega

theorem State.samples.notOverdue {s : State} (h : s.samples) : s.tracker.indexOverdue = false := by
  cases hv : s.tracker.angleValid
  · simp [Tracker.indexOverdue, hv]
  · rw [Tracker.indexOverdue, hv, Bool.true_and]
    exact decide_eq_false (Nat.not_le.mpr (h.sinceIndex_lt hv))

theorem State.settleIndex_idle {s : State} (h : s.tracker.indexOverdue = false) : s.settleIndex = s := by
  rw [State.settleIndex, h]
  rfl

/-- The next or the previous pair of levels is one increment, taken with the pair as the new reference. -/
theorem exec_turn {s : State} (h : s.samples) (forward level : Bool) :
    exec (s.turn forward level) s = .next ((s.turnAdopted forward).takeIncrement forward level) := by
  have settled := State.settleIndex_idle h.notOverdue
  obtain ⟨hr, -⟩ := h
  cases forward
  · show execIncrement s.tracker.levelB (!s.tracker.levelA) level s = _
    simp only [execIncrement, hr, quadChange_reverse, settled]
    rfl
  · show execIncrement (!s.tracker.levelB) s.tracker.levelA level s = _
    simp only [execIncrement, hr, quadChange_forward, settled]
    rfl

/-! ### What the tracker decides of an increment -/

/-- Is an increment at this index level an index increment (R6)? -/
def Tracker.rises (t : Tracker) (level : Bool) : Bool := level && !t.indexWas

/-- The correction an increment carries (R7 to R9). -/
def Tracker.correction (t : Tracker) (forward level : Bool) : Option Correction := correctionAt t forward (t.rises level)

/-- Is the increment an index slip (R9)? -/
def Tracker.slips (t : Tracker) (forward level : Bool) : Bool := (t.correction forward level).any Correction.slip

/-- Does the increment issue a course boundary itself (R3, R7 to R9, R166)? -/
def Tracker.crosses (t : Tracker) (forward level : Bool) : Bool :=
  (ordinaryBoundary t forward && !(t.advance forward (t.rises level) level).indexOverdue)
    || (t.correction forward level).any Correction.boundary

/-- The tracker after an increment. -/
def Tracker.turned (t : Tracker) (forward level : Bool) : Tracker :=
  let moved := t.advance forward (t.rises level) level
  match t.correction forward level with
  | some c => if forward then (moved.corrected forward c).capture else moved.corrected forward c
  | none => if t.rises level then moved.validate forward else moved

/-- The window crossings an increment issues: the ordinary one's, then those an index still owes (R4, R5, R7, R8, R10). -/
def incrementCrossings (s : State) (forward level : Bool) : List Crossing :=
  ordinaryCrossings s s.tracker forward
    ++ ((s.tracker.correction forward level).map fun c => c.edges.flatMap (crossingsAt s forward)).getD []

/-- What the due check of the increment's boundary reads (R17; entry 6). -/
def State.boundaryReads (s : State) (forward level : Bool) : Nat :=
  dueCheckReads s.choices s.tracker.tMeas (s.tracker.turned forward level).tMeas

theorem Tracker.rises_iff (s : State) (level : Bool) : s.tracker.rises level = true ↔ s.indexRises level := by
  simp [Tracker.rises, State.indexRises]

theorem State.turned_eq (s : State) (forward : Bool) : s.turned forward = nextAngle s.tracker.angle forward := rfl

theorem Tracker.correction_none {t : Tracker} {level : Bool} (forward : Bool)
    (h : t.rises level = false ∨ t.angleValid = false) : t.correction forward level = none := by
  rcases h with h | h <;> simp [Tracker.correction, correctionAt, h]

theorem Tracker.correction_some {t : Tracker} {level : Bool} (forward : Bool) (hr : t.rises level = true)
    (hv : t.angleValid = true) : t.correction forward level = some (correctionOf forward (nextAngle t.angle forward)) := by
  simp [Tracker.correction, correctionAt, hr, hv]

/-- An increment that is no index increment leaves the tracker as its ordinary part does. -/
theorem Tracker.turned_ordinary {t : Tracker} {level : Bool} (forward : Bool) (h : t.rises level = false) :
    t.turned forward level = t.advance forward false level := by
  simp [Tracker.turned, Tracker.correction_none forward (Or.inl h), h]

/-- When a forward index is a slip and when it brings the boundary (R7, R9). -/
theorem forwardCorrection_flags (v : Nat) :
    ((forwardCorrection v).slip = true ↔ 5 ≤ v ∧ v ≤ 1435) ∧ ((forwardCorrection v).boundary = true ↔ 720 ≤ v) := by
  unfold forwardCorrection
  split
  · simp; omega
  · split
    · simp; omega
    · simp; omega

/-- When a reverse index is a slip and when it brings the boundary (R8, R9). -/
theorem reverseCorrection_flags (v : Nat) :
    ((reverseCorrection v).slip = true ↔ 4 ≤ v ∧ v ≤ 1434) ∧ ((reverseCorrection v).boundary = true ↔ v ≤ 719) := by
  unfold reverseCorrection
  split
  · simp; omega
  · split
    · simp; omega
    · simp; omega

/-- Does an index at this counter value lie outside the tolerance (R9)? -/
def outsideTolerance (forward : Bool) (v : Nat) : Prop := if forward then 5 ≤ v ∧ v ≤ 1435 else 4 ≤ v ∧ v ≤ 1434

theorem Tracker.slips_iff (s : State) (forward level : Bool) :
    s.tracker.slips forward level = true
      ↔ s.tracker.angleValid = true ∧ s.indexRises level ∧ outsideTolerance forward (s.turned forward) := by
  rw [← Tracker.rises_iff]
  by_cases h : s.tracker.rises level = false ∨ s.tracker.angleValid = false
  · rw [Tracker.slips, Tracker.correction_none forward h]
    rcases h with h | h <;> simp [h]
  · obtain ⟨hr, hv⟩ : s.tracker.rises level = true ∧ s.tracker.angleValid = true := by simpa using h
    rw [Tracker.slips, Tracker.correction_some forward hr hv, State.turned_eq]
    cases forward
    · simpa [hr, hv, outsideTolerance, correctionOf] using (reverseCorrection_flags _).1
    · simpa [hr, hv, outsideTolerance, correctionOf] using (forwardCorrection_flags _).1

/-- Of the increments that wrap the counter, only the 1449th forward one without an index leaves its boundary (R166). -/
theorem State.samples.movedOverdue {s : State} (h : s.samples) (hv : s.tracker.angleValid = true) (forward level : Bool) :
    (s.tracker.advance forward (s.tracker.rises level) level).indexOverdue = true
      ↔ forward = true ∧ s.tracker.rises level = false ∧ s.tracker.sinceIndex = 1448 := by
  have := h.sinceIndex_lt hv
  cases hr : s.tracker.rises level <;> cases forward <;>
    simp [Tracker.advance, Tracker.indexOverdue, Tracker.sinceAfter, missingAt, hv] <;> omega

theorem State.samples.crosses_iff {s : State} (h : s.samples) (forward level : Bool) :
    s.tracker.crosses forward level = true ↔ s.crossesBoundary forward level := by
  by_cases hv : s.tracker.angleValid = true
  · have overdue := h.movedOverdue hv forward level
    have since := h.sinceIndex_lt hv
    have wrap : (ordinaryBoundary s.tracker forward = true) ↔ s.tracker.angle = (if forward then 1439 else 0) := by
      simp [ordinaryBoundary, hv]
    rw [Tracker.crosses, Bool.or_eq_true, Bool.and_eq_true, wrap, Bool.not_eq_true', ← Bool.not_eq_true, overdue,
      State.crossesBoundary, ← Tracker.rises_iff, State.turned_eq, State.turned_eq]
    cases hr : s.tracker.rises level
    · rw [Tracker.correction_none forward (Or.inl hr)]
      cases forward
      · simp [hv]
      · simp [hv]
        omega
    · rw [Tracker.correction_some forward hr hv]
      have hf := forwardCorrection_flags (nextAngle s.tracker.angle true)
      have hb := reverseCorrection_flags (nextAngle s.tracker.angle false)
      cases forward <;> simp [hv, correctionOf, hf, hb]
  · simp only [Bool.not_eq_true] at hv
    simp [Tracker.crosses, State.crossesBoundary, ordinaryBoundary, hv, Tracker.correction_none forward (Or.inr hv)]

/-! ### The parts of an increment -/

/-- INDEX_SLIP where the increment is a slip (R9). -/
def State.slipPart (u s : State) (forward level : Bool) : State :=
  if s.tracker.slips forward level then u.indexSlip (s.turned forward) else u

/-- The tracker as the index leaves it, and the boundary of the increment, of which `s` is the state before (R3, R86). -/
def State.boundaryPart (u s : State) (forward level : Bool) : State :=
  let aligned := { u with tracker := s.tracker.turned forward level }
  if s.tracker.crosses forward level then aligned.boundary forward (s.boundaryReads forward level) else aligned

/-- The state as the increment's crossings find it. -/
def State.begun (s : State) (forward level : Bool) : State :=
  { s with tracker := s.tracker.advance forward (s.tracker.rises level) level, choices := s.choices + 1 }

/-- Outside CATCHUP: the crossings, the slip, the boundary, and a HOLD that a guard requested and that follows it. -/
theorem State.takeIncrement_eq {s : State} (h : s.node.state ≠ .catchup) (forward level : Bool) :
    s.takeIncrement forward level =
      (let crossed := takeIncrementCrossings s.choices (s.begun forward level) (incrementCrossings s forward level)
       let ended := (crossed.1.slipPart s forward level).boundaryPart s forward level
       if crossed.2 then ended.requestHold false else ended) := by
  have hc : (s.node.state == NodeState.catchup) = false := by simpa using h
  simp only [State.takeIncrement, hc, Bool.false_eq_true, false_and, if_false]
  rfl

/-! ### Crossings outside RUNNING -/

theorem takeCrossing_idle {s : State} (h : s.node.state ≠ .running) (c : Crossing) : takeCrossing s c = s := by
  rw [takeCrossing, if_neg fun e => h e.1]

theorem takeCrossings_idle {s : State} (h : s.node.state ≠ .running) (cs : List Crossing) :
    takeCrossings s cs = (s, false) := by
  induction cs with
  | nil => rfl
  | cons c rest ih =>
    have hold : requestsHold s c = false := by
      have : (s.node.state == NodeState.running) = false := by simpa using h
      simp [requestsHold, this]
    rw [takeCrossings, takeCrossing_idle h, ih, hold]
    rfl

theorem takeIncrementCrossings_idle {s : State} (h : s.node.state ≠ .running) (seed : Nat) (cs : List Crossing) :
    takeIncrementCrossings seed s cs = (s, false) := by
  rw [takeIncrementCrossings, takeCrossings_idle h]
  rfl

@[simp] theorem takeIncrementCrossings_nil (seed : Nat) (s : State) : takeIncrementCrossings seed s [] = (s, false) := rfl

/-- An increment in OFFLINE, ARMED or HOLD: the slip and the boundary. -/
theorem State.takeIncrement_standing {s : State} (h : s.node.state = .offline ∨ s.node.state = .armed ∨ s.node.state = .hold)
    (forward level : Bool) :
    s.takeIncrement forward level
      = ((s.begun forward level).slipPart s forward level).boundaryPart s forward level := by
  have hr : s.node.state ≠ .running := by rcases h with h | h | h <;> simp [h]
  have hc : s.node.state ≠ .catchup := by rcases h with h | h | h <;> simp [h]
  rw [State.takeIncrement_eq hc, takeIncrementCrossings_idle (s := s.begun forward level) hr]
  rfl

/-- An increment that issues no crossing, in RUNNING too. -/
theorem State.takeIncrement_uncrossed {s : State} (h : s.node.state ≠ .catchup) {forward level : Bool}
    (hcs : incrementCrossings s forward level = []) :
    s.takeIncrement forward level
      = ((s.begun forward level).slipPart s forward level).boundaryPart s forward level := by
  rw [State.takeIncrement_eq h, hcs]
  rfl

/-- An increment in CATCHUP: CATCHUP_DISTURBED stands before the slip, between the slip and the boundary, or last. -/
theorem State.takeIncrement_catchup {s : State} (h : s.node.state = .catchup) (forward level : Bool) :
    (s.takeIncrement forward level
        = (((s.begun forward level).disturbed (s.turned forward)).slipPart s forward level).boundaryPart s forward level
      ∨ s.takeIncrement forward level
        = (((s.begun forward level).slipPart s forward level).disturbed (s.turned forward)).boundaryPart s forward level
      ∨ s.takeIncrement forward level
        = (((s.begun forward level).slipPart s forward level).boundaryPart s forward level).disturbed (s.turned forward)) := by
  have hc : (s.node.state == NodeState.catchup) = true := by simp [h]
  have hold : ((s.begun forward level).disturbed (s.turned forward)).node.state ≠ .running := by
    show (s.node.requestHold false).state ≠ .running
    simp [Node.requestHold_state, h]
  have before : (s.begun forward level).node.state ≠ .running := by
    show s.node.state ≠ .running
    simp [h]
  have idle := fun (u : State) (hu : u.node.state ≠ .running) =>
    takeIncrementCrossings_idle hu s.choices (incrementCrossings s forward level)
  by_cases p0 : disturbPlace s.choices (s.tracker.slips forward level) (s.tracker.crosses forward level) = 0
  · left
    have e : s.takeIncrement forward level =
        (let crossed := takeIncrementCrossings s.choices ((s.begun forward level).disturbed (s.turned forward))
            (incrementCrossings s forward level)
         let ended := (crossed.1.slipPart s forward level).boundaryPart s forward level
         if crossed.2 then ended.requestHold false else ended) := by
      simp only [State.takeIncrement, hc]
      rw [Tracker.slips, Tracker.crosses, Tracker.correction, Tracker.rises] at p0
      simp only [p0]
      rfl
    rw [e, idle _ hold]
    rfl
  · have e : s.takeIncrement forward level =
        (let place := disturbPlace s.choices (s.tracker.slips forward level) (s.tracker.crosses forward level)
         let crossed := takeIncrementCrossings s.choices (s.begun forward level) (incrementCrossings s forward level)
         let slipped := crossed.1.slipPart s forward level
         let disturbed := if place = 1 then slipped.disturbed (s.turned forward) else slipped
         let ended := disturbed.boundaryPart s forward level
         let held := if crossed.2 then ended.requestHold false else ended
         if place ≠ 1 then held.disturbed (s.turned forward) else held) := by
      rw [Tracker.slips, Tracker.crosses, Tracker.correction, Tracker.rises] at p0
      simp only [State.takeIncrement, hc, p0, true_and, if_false, ne_eq, not_false_eq_true]
      rfl
    right
    rw [e, idle _ before]
    by_cases p1 : disturbPlace s.choices (s.tracker.slips forward level) (s.tracker.crosses forward level) = 1
    · left
      simp only [p1]
      rfl
    · right
      simp only [p1, ne_eq, not_false_eq_true, if_true, if_false]
      rfl

end Sys2Proof.Machine


-- ==== Course boundaries, state by state (R86 to R92, R106) ====
namespace Sys2Proof.Machine

theorem State.nodeRecord_eq (s : State) (code : NodeCode) (tag : Option Word) (angle : Nat) :
    s.nodeRecord code tag angle = reportTo s.faults.node code tag angle := by
  unfold State.nodeRecord reportTo
  cases s.faults.node <;> rfl

theorem State.barRecord_eq (s : State) (n : BarIx) (code : BarCode) (tag : Option Word) (angle : Nat) :
    s.barRecord n code tag angle = reportTo s.faults.bars[n] code tag angle := by
  unfold State.barRecord reportTo
  cases s.faults.bars[n] <;> rfl

theorem reportTo_ne_none {Code : Type} (rec : Option (FaultCapture Code)) (code : Code) (tag : Option Word) (angle : Nat) :
    reportTo rec code tag angle ≠ none := by
  cases rec <;> simp

/-! ### The node states in which the queue follows the shaft (R86) -/

/-- RUNNING, HOLD and CATCHUP: the states in which a hold request acts and the queue follows every boundary. -/
def NodeState.follows (st : NodeState) : Prop := st = .running ∨ st = .hold ∨ st = .catchup

theorem Node.requestHold_hold {n : Node} (h : n.state.follows) (d : Bool) : (n.requestHold d).state = .hold := by
  rcases h with h | h | h <;> simp [Node.requestHold_state, h]

theorem Node.requestHold_stopReq {n : Node} (h : n.state = .running ∨ n.state = .catchup) (d : Bool) :
    (n.requestHold d).stopReq = true := by
  rw [Node.requestHold_takes d h]
  rfl

theorem Node.requestHold_desync {n : Node} (h : n.state.follows) (d : Bool) :
    (n.requestHold d).desync = (n.desync || d) := by
  rcases h with h | h | h <;> simp [Node.requestHold, h]

/-- HOLD and DESYNC taken from RUNNING or CATCHUP. -/
theorem Node.requestHold_outOfStep {n : Node} (h : n.state = .running ∨ n.state = .catchup) :
    n.requestHold true = n.heldOutOfStep := by
  rw [Node.requestHold_takes true h]
  simp [Node.enter, Node.heldOutOfStep, NodeState.asserts]

/-- A guard's HOLD first changes nothing of what HOLD and DESYNC then give. -/
theorem Node.requestHold_twice {n : Node} (h : n.state = .running ∨ n.state = .catchup) :
    (n.requestHold false).requestHold true = n.heldOutOfStep := by
  rw [Node.requestHold_takes false h]
  simp [Node.requestHold, Node.enter, Node.heldOutOfStep, NodeState.asserts]

/-- A second hold request without DESYNC changes nothing. -/
theorem Node.requestHold_again {n : Node} (h : n.state = .hold) : n.requestHold false = n := by
  rw [Node.requestHold_stays false h, Bool.or_false]

/-! ### Forward boundaries -/

theorem State.forwardBoundary_offline {s : State} (h : s.node.state = .offline) (t : Nat) : s.forwardBoundary t = s := by
  simp [State.forwardBoundary, h]

theorem State.forwardBoundary_armed_empty {s : State} (h : s.node.state = .armed) (hp : s.queue.pending = []) (t : Nat) :
    s.forwardBoundary t = s := by
  simp [State.forwardBoundary, h, hp]

/-- In ARMED a boundary with a record pending starts the run (R87, R138). -/
theorem State.forwardBoundary_armed {s : State} (h : s.node.state = .armed) {head : CourseRecord} {rest : List CourseRecord}
    (hp : s.queue.pending = head :: rest) (t : Nat) :
    s.forwardBoundary t = { s with node := s.node.enter .running }.stepQueue t head rest := by
  simp [State.forwardBoundary, h, hp]

theorem State.forwardBoundary_dry {s : State} (h : s.node.state.follows) (hp : s.queue.pending = []) (t : Nat) :
    s.forwardBoundary t = s.runDry := by
  rcases h with h | h | h <;> simp [State.forwardBoundary, h, hp]

theorem State.forwardBoundary_steps {s : State} (h : s.node.state.follows) {head : CourseRecord}
    {rest : List CourseRecord} (hp : s.queue.pending = head :: rest) (t : Nat) :
    s.forwardBoundary t = s.stepQueue t head rest := by
  rcases h with h | h | h <;> simp [State.forwardBoundary, h, hp]

/-- The queue stepped and the trims active, with no due check (R88, R121). -/
def State.queueStepped (s : State) (head : CourseRecord) (rest : List CourseRecord) : State :=
  { s with queue := s.queue.stepped head rest, bars := activateTrims s.bars }

theorem State.stepQueue_held {s : State} (h : s.node.state ≠ .running) (t : Nat) (head : CourseRecord)
    (rest : List CourseRecord) : s.stepQueue t head rest = s.queueStepped head rest := by
  rw [State.stepQueue, if_neg h]
  rfl

theorem State.stepQueue_running {s : State} (h : s.node.state = .running) (t : Nat) (head : CourseRecord)
    (rest : List CourseRecord) : s.stepQueue t head rest = (s.queueStepped head rest).makeDueCheck t head := by
  rw [State.stepQueue, if_pos h]
  rfl

/-- Stepping the queue leaves all but the due check of it as the step gives it, and makes the trims active. -/
theorem State.stepQueue_queue (s : State) (t : Nat) (head : CourseRecord) (rest : List CourseRecord) :
    ∃ d, (s.stepQueue t head rest).queue = { s.queue.stepped head rest with dueCheck := d } := by
  by_cases h : s.node.state = .running
  · rw [State.stepQueue_running h, State.makeDueCheck]
    dsimp only
    split <;> exact ⟨_, rfl⟩
  · rw [State.stepQueue_held h]
    exact ⟨_, rfl⟩

@[simp] theorem State.stepQueue_bars (s : State) (t : Nat) (head : CourseRecord) (rest : List CourseRecord) :
    (s.stepQueue t head rest).bars = activateTrims s.bars := by
  unfold State.stepQueue
  dsimp only
  split <;> simp

@[simp] theorem State.runDry_bars (s : State) : s.runDry.bars = activateTrims s.bars := rfl

@[simp] theorem State.makeDueCheck_faultBars (s : State) (t : Nat) (r : CourseRecord) :
    (s.makeDueCheck t r).faults.bars = s.faults.bars := by
  unfold State.makeDueCheck
  dsimp only
  split <;> rfl

@[simp] theorem State.stepQueue_faultBars (s : State) (t : Nat) (head : CourseRecord) (rest : List CourseRecord) :
    (s.stepQueue t head rest).faults.bars = s.faults.bars := by
  unfold State.stepQueue
  dsimp only
  split <;> simp

@[simp] theorem State.runDry_faultBars (s : State) : s.runDry.faults.bars = s.faults.bars := rfl

@[simp] theorem State.forwardBoundary_faultBars (s : State) (t : Nat) :
    (s.forwardBoundary t).faults.bars = s.faults.bars := by
  unfold State.forwardBoundary
  split
  · rfl
  all_goals split <;> simp

@[simp] theorem State.reverseBoundary_faultBars (s : State) : s.reverseBoundary.faults.bars = s.faults.bars := by
  unfold State.reverseBoundary
  split
  · rfl
  · rfl
  all_goals split <;> rfl

@[simp] theorem State.boundary_faultBars (s : State) (f : Bool) (t : Nat) :
    (s.boundary f t).faults.bars = s.faults.bars := by
  unfold State.boundary
  split <;> simp

/-! ### The due check (R106, R107) -/

/-- What a due check asks of the period it reads (R106). -/
theorem dueCheckPasses_iff (tMeas tMin margin : Nat) :
    dueCheckPasses tMeas tMin margin = true ↔ tMeas = 16777215 ∨ tMin * (256 + margin) ≤ tMeas * 256 := by
  simp [dueCheckPasses, saturated]

theorem State.makeDueCheck_queue (s : State) (t : Nat) (r : CourseRecord) :
    (s.makeDueCheck t r).queue = { s.queue with
      dueCheck := some ⟨r.tag, t, r.tMin, s.node.margin, dueCheckPasses t r.tMin s.node.margin⟩ } := by
  unfold State.makeDueCheck
  dsimp only
  split <;> rfl

theorem State.makeDueCheck_pass {s : State} {t : Nat} {r : CourseRecord}
    (h : dueCheckPasses t r.tMin s.node.margin = true) :
    (s.makeDueCheck t r).node = s.node ∧ (s.makeDueCheck t r).faults = s.faults := by
  rw [State.makeDueCheck, if_pos h]
  exact ⟨rfl, rfl⟩

theorem State.makeDueCheck_fail {s : State} {t : Nat} {r : CourseRecord}
    (h : dueCheckPasses t r.tMin s.node.margin = false) :
    (s.makeDueCheck t r).node = s.node.requestHold false
      ∧ (s.makeDueCheck t r).faults.node = reportTo s.faults.node .unfit (some r.tag) 0 := by
  rw [State.makeDueCheck, if_neg (by rw [h]; exact Bool.false_ne_true)]
  exact ⟨rfl, rfl⟩

/-! ### Reverse boundaries -/

theorem State.reverseBoundary_idle {s : State} (h : s.node.state = .offline ∨ s.node.state = .armed) :
    s.reverseBoundary = s := by
  rcases h with h | h <;> simp [State.reverseBoundary, h]

theorem State.reverseBoundary_exhausted {s : State} (h : s.node.state.follows) (hh : s.queue.history = []) :
    s.reverseBoundary = (s.reportNode .retraceExhausted s.currentTag 1439).requestHold true := by
  rcases h with h | h | h <;> simp [State.reverseBoundary, h, hh]

theorem State.reverseBoundary_retraces {s : State} (h : s.node.state.follows) {older : List CourseRecord}
    {newest : CourseRecord} (hh : s.queue.history = older ++ [newest]) :
    s.reverseBoundary = { s with queue := s.queue.retraced newest } := by
  rcases h with h | h | h <;> simp [State.reverseBoundary, h, hh]

/-- A retrace with room in the pending list (R90). -/
theorem Queue.retraced_room {q : Queue} {older : List CourseRecord} {newest cur : CourseRecord}
    (hh : q.history = older ++ [newest]) (hc : q.current = some cur) (hp : q.pending.length < 16) :
    q.retraced newest = { q with history := older, current := some newest, pending := cur :: q.pending } := by
  have room : q.roomForRetrace = q := by
    rw [Queue.roomForRetrace, pendingMax, if_neg (by omega)]
  simp [Queue.retraced, room, hh, hc]

/-- A retrace with a list of 16, whose tail is discarded and expected next (R91). -/
theorem Queue.retraced_full {q : Queue} {older keep : List CourseRecord} {newest cur tail : CourseRecord}
    (hh : q.history = older ++ [newest]) (hc : q.current = some cur) (hk : q.pending = keep ++ [tail])
    (hp : 16 ≤ q.pending.length) :
    q.retraced newest
      = { q with history := older, current := some newest, pending := cur :: keep, expected := some tail.tag } := by
  have room : q.roomForRetrace = { q with pending := keep, expected := some tail.tag } := by
    rw [Queue.roomForRetrace, pendingMax, if_pos hp, hk]
    simp
  simp [Queue.retraced, room, hh, hc]

/-! ### What every boundary does to the node -/

/-- In HOLD and CATCHUP a boundary leaves the node, or takes HOLD and DESYNC. -/
theorem State.boundary_node {u : State} (h : u.node.state = .hold ∨ u.node.state = .catchup) (forward : Bool) (t : Nat) :
    (u.boundary forward t).node = u.node ∨ (u.boundary forward t).node = u.node.requestHold true := by
  have hf : u.node.state.follows := Or.inr h
  have hr : u.node.state ≠ .running := by rcases h with h | h <;> simp [h]
  cases forward
  · show u.reverseBoundary.node = _ ∨ u.reverseBoundary.node = _
    cases hh : u.queue.history.getLast? with
    | none =>
      rw [State.reverseBoundary_exhausted hf (List.getLast?_eq_none_iff.mp hh)]
      exact Or.inr rfl
    | some newest =>
      obtain ⟨older, hh⟩ := List.getLast?_eq_some_iff.mp hh
      rw [State.reverseBoundary_retraces hf hh]
      exact Or.inl rfl
  · show (u.forwardBoundary t).node = _ ∨ (u.forwardBoundary t).node = _
    cases hp : u.queue.pending with
    | nil =>
      rw [State.forwardBoundary_dry hf hp]
      exact Or.inr rfl
    | cons head rest =>
      rw [State.forwardBoundary_steps hf hp, State.stepQueue_held hr]
      exact Or.inl rfl

/-! ### The boundary part of an increment -/

@[simp] theorem State.boundaryPart_none {s : State} {forward level : Bool} (h : s.tracker.crosses forward level = false)
    (u : State) : u.boundaryPart s forward level = { u with tracker := s.tracker.turned forward level } := by
  simp [State.boundaryPart, h]

theorem State.boundaryPart_forward {s : State} {level : Bool} (h : s.tracker.crosses true level = true) (u : State) :
    u.boundaryPart s true level
      = { u with tracker := s.tracker.turned true level }.forwardBoundary (s.boundaryReads true level) := by
  simp [State.boundaryPart, h, State.boundary]

theorem State.boundaryPart_reverse {s : State} {level : Bool} (h : s.tracker.crosses false level = true) (u : State) :
    u.boundaryPart s false level = { u with tracker := s.tracker.turned false level }.reverseBoundary := by
  simp [State.boundaryPart, h, State.boundary]

@[simp] theorem State.boundaryPart_faultBars (u s : State) (forward level : Bool) :
    (u.boundaryPart s forward level).faults.bars = u.faults.bars := by
  unfold State.boundaryPart
  dsimp only
  split <;> simp

theorem State.slipPart_none {s : State} {forward level : Bool} (h : s.tracker.slips forward level = false) (u : State) :
    u.slipPart s forward level = u := by
  simp [State.slipPart, h]

theorem State.slipPart_slips {s : State} {forward level : Bool} (h : s.tracker.slips forward level = true) (u : State) :
    u.slipPart s forward level = u.indexSlip (s.turned forward) := by
  simp [State.slipPart, h]

@[simp] theorem State.slipPart_queue (u s : State) (f l : Bool) : (u.slipPart s f l).queue = u.queue := by
  unfold State.slipPart; split <;> rfl
@[simp] theorem State.slipPart_bars (u s : State) (f l : Bool) : (u.slipPart s f l).bars = u.bars := by
  unfold State.slipPart; split <;> rfl
@[simp] theorem State.slipPart_faultBars (u s : State) (f l : Bool) : (u.slipPart s f l).faults.bars = u.faults.bars := by
  unfold State.slipPart; split <;> rfl

end Sys2Proof.Machine


-- ==== Window crossings (R4, R5, R123 to R130) ====
namespace Sys2Proof.Machine

/-! ### Edges (R4) -/

/-- While the windows are in order every edge lies in 1..1439 (R4, R120, R122). -/
theorem Node.edgeAngle_range {n : Node} {trim : Int} {e : Edge} {angle : Nat} (h : n.edgeAngle trim e = some angle) :
    1 ≤ angle ∧ angle ≤ 1439 := by
  unfold Node.edgeAngle at h
  split at h
  · rename_i hw
    simp only [Node.windowsOk, Bool.and_eq_true, decide_eq_true_eq] at hw
    simp only [Node.effectiveTrim, Option.some.injEq] at h
    cases e <;> simp only [] at h <;> omega
  · cases h

theorem mem_crossingsAt {s : State} {forward : Bool} {angle : Nat} {c : Crossing} :
    c ∈ crossingsAt s forward angle
      ↔ c.forward = forward ∧ c.angle = angle ∧ s.node.edgeAngle s.bars[c.bar].activeTrim c.edge = some angle := by
  have order : ∀ e : Edge, e ∈ edgeOrder forward := by
    intro e
    cases forward <;> cases e <;> decide
  constructor
  · intro h
    simp only [crossingsAt, barCrossings, List.mem_flatMap, List.mem_map, List.mem_filter, beq_iff_eq] at h
    obtain ⟨n, -, e, ⟨-, he⟩, rfl⟩ := h
    exact ⟨rfl, rfl, he⟩
  · rintro ⟨rfl, rfl, he⟩
    simp only [crossingsAt, barCrossings, List.mem_flatMap, List.mem_map, List.mem_filter, beq_iff_eq]
    exact ⟨c.bar, List.mem_finRange _, c.edge, ⟨order _, he⟩, rfl⟩

/-- No edge lies at angle 0. -/
theorem crossingsAt_zero (s : State) (forward : Bool) : crossingsAt s forward 0 = [] := by
  refine List.eq_nil_iff_forall_not_mem.mpr fun c hc => ?_
  obtain ⟨-, -, he⟩ := mem_crossingsAt.mp hc
  exact absurd (Node.edgeAngle_range he).1 (by decide)

/-- An increment that wraps the counter crosses no edge in its ordinary part. -/
theorem ordinaryCrossings_wrap {s : State} {forward : Bool} (h : s.tracker.angle = if forward then 1439 else 0) :
    ordinaryCrossings s s.tracker forward = [] := by
  unfold ordinaryCrossings
  split
  · cases forward <;> simp_all [nextAngle, crossingsAt_zero]
  · rfl

/-- An increment that wraps the counter issues no crossing: an index there is exact (R7, R8). -/
theorem incrementCrossings_wrap {s : State} {forward : Bool} (h : s.tracker.angle = if forward then 1439 else 0)
    (level : Bool) : incrementCrossings s forward level = [] := by
  rw [incrementCrossings, ordinaryCrossings_wrap h, List.nil_append]
  by_cases hc : s.tracker.rises level = false ∨ s.tracker.angleValid = false
  · rw [Tracker.correction_none forward hc]
    rfl
  · obtain ⟨hr, hv⟩ : s.tracker.rises level = true ∧ s.tracker.angleValid = true := by simpa using hc
    rw [Tracker.correction_some forward hr hv, h]
    cases forward <;> rfl

/-- While the angle is invalid an increment issues no crossing (R11). -/
theorem incrementCrossings_invalid {s : State} (h : s.tracker.angleValid = false) (forward level : Bool) :
    incrementCrossings s forward level = [] := by
  rw [incrementCrossings, Tracker.correction_none forward (Or.inr h)]
  simp [ordinaryCrossings, h]

/-! ### One crossing -/

/-- The parameters of a bar that no crossing changes. -/
def Bar.sameParameters (b b' : Bar) : Prop :=
  b'.mode = b.mode ∧ b'.referenced = b.referenced ∧ b'.enable = b.enable ∧ b'.activeTrim = b.activeTrim
    ∧ b'.pendingTrim = b.pendingTrim ∧ (b.motion.isMoving = true → b'.motion.isMoving = true)

theorem Bar.sameParameters_refl (b : Bar) : b.sameParameters b := ⟨rfl, rfl, rfl, rfl, rfl, id⟩

theorem Bar.sameParameters.trans {a b c : Bar} (h1 : a.sameParameters b) (h2 : b.sameParameters c) : a.sameParameters c := by
  obtain ⟨m1, r1, e1, a1, p1, f1⟩ := h1
  obtain ⟨m2, r2, e2, a2, p2, f2⟩ := h2
  exact ⟨m2.trans m1, r2.trans r1, e2.trans e1, a2.trans a1, p2.trans p1, f2 ∘ f1⟩

theorem Bar.giveTarget_sameParameters (b : Bar) (ramp : Option (List Nat)) (target : Nat) :
    b.sameParameters (b.giveTarget ramp target) := by
  unfold Bar.giveTarget
  cases hm : b.motion with
  | still =>
    simp only [Bar.startToward]
    split
    · exact b.sameParameters_refl
    · split
      · exact b.sameParameters_refl
      · exact ⟨rfl, rfl, rfl, rfl, rfl, fun h => by simp [hm, Motion.isMoving] at h⟩
  | moving m => exact ⟨rfl, rfl, rfl, rfl, rfl, fun _ => rfl⟩
  | searching x => exact b.sameParameters_refl

/-- Everything a crossing can do: nothing, a guard's report, or a target given to its unit, with LATE when it is MOVING. -/
theorem takeCrossing_cases (s : State) (c : Crossing) :
    takeCrossing s c = s
      ∨ (requestsHold s c = s.node.guardEnable ∧ s.bars[c.bar].motion.isMoving = true
        ∧ takeCrossing s c = s.reportBar c.bar .guard s.currentTag c.angle)
      ∨ (∃ needle, crossingMeaning c.edge c.forward = .trigger ∧ triggerNeedle s.queue c.bar c.edge c.forward = some needle
        ∧ takeCrossing s c = takeCourseTarget s c needle) := by
  unfold takeCrossing
  split
  · rename_i hs
    cases hm : crossingMeaning c.edge c.forward with
    | trigger =>
      cases hn : triggerNeedle s.queue c.bar c.edge c.forward with
      | none => exact Or.inl (by simp)
      | some needle => exact Or.inr (Or.inr ⟨needle, rfl, rfl, by simp⟩)
    | guard =>
      cases hv : s.bars[c.bar].motion.isMoving with
      | false => exact Or.inl (by simp)
      | true => exact Or.inr (Or.inl ⟨by simp [-Fin.getElem_fin, requestsHold, hs, hm, hv], rfl, by simp⟩)
  · exact Or.inl rfl

/-- What a series of crossings leaves: all but the bars and their fault records, and of each bar its parameters. -/
def Crossed (s u : State) : Prop :=
  u = { s with bars := u.bars, faults := { s.faults with bars := u.faults.bars } }
    ∧ ∀ n : BarIx, s.bars[n].sameParameters u.bars[n]

theorem Crossed.refl (s : State) : Crossed s s := ⟨rfl, fun n => s.bars[n].sameParameters_refl⟩

theorem Crossed.trans {s u v : State} (h1 : Crossed s u) (h2 : Crossed u v) : Crossed s v := by
  obtain ⟨e1, b1⟩ := h1
  obtain ⟨e2, b2⟩ := h2
  refine ⟨?_, fun n => (b1 n).trans (b2 n)⟩
  rw [e2, e1]

theorem State.setBar_sameParameters {s : State} {n : BarIx} {b : Bar} (h : s.bars[n].sameParameters b) (k : BarIx) :
    s.bars[k].sameParameters (s.setBar n b).bars[k] := by
  by_cases hk : k = n
  · subst hk
    rw [State.setBar_same]
    exact h
  · rw [State.setBar_other s b hk]
    exact Bar.sameParameters_refl _

theorem takeCourseTarget_crossed (s : State) (c : Crossing) (needle : Nat) : Crossed s (takeCourseTarget s c needle) := by
  have kept := State.setBar_sameParameters (s := s) (Bar.giveTarget_sameParameters s.bars[c.bar] (s.rampOf s.bars[c.bar])
    (needle * (s.classOf s.bars[c.bar]).spn))
  unfold takeCourseTarget
  dsimp only
  split
  · exact ⟨rfl, kept⟩
  · exact ⟨rfl, kept⟩

theorem takeCrossing_crossed (s : State) (c : Crossing) : Crossed s (takeCrossing s c) := by
  rcases takeCrossing_cases s c with e | ⟨-, -, e⟩ | ⟨needle, -, -, e⟩ <;> rw [e]
  · exact Crossed.refl s
  · exact ⟨rfl, fun n => s.bars[n].sameParameters_refl⟩
  · exact takeCourseTarget_crossed s c needle

theorem takeCrossings_crossed (s : State) (cs : List Crossing) : Crossed s (takeCrossings s cs).1 :=
  takeCrossings_keeps (P := Crossed s) (fun _ c h => h.trans (takeCrossing_crossed _ c)) (Crossed.refl s) cs

/-! ### A guard's HOLD (R129, R130) -/

/-- A crossing that requests HOLD is a guard's, reported to its bar's record. -/
theorem requestsHold_reports {s : State} {c : Crossing} (h : requestsHold s c = true) :
    s.node.guardEnable = true ∧ takeCrossing s c = s.reportBar c.bar .guard s.currentTag c.angle := by
  simp only [requestsHold, Bool.and_eq_true, beq_iff_eq] at h
  obtain ⟨⟨⟨⟨hg, hs⟩, hb⟩, hm⟩, hv⟩ := h
  exact ⟨hg, by simp [-Fin.getElem_fin, takeCrossing, hs, hb, hm, hv]⟩

/-- No crossing empties a bar's record. -/
theorem takeCrossing_keeps_record {s : State} {k : BarIx} (h : s.faults.bars[k] ≠ none) (c : Crossing) :
    (takeCrossing s c).faults.bars[k] ≠ none := by
  have reported : ∀ code tag angle, (s.reportBar c.bar code tag angle).faults.bars[k] ≠ none := by
    intro code tag angle
    rw [State.reportBar_faults_bars]
    by_cases hk : c.bar.val = k.val
    · simp [hk, reportTo_ne_none]
    · simpa [Vector.getElem_set, hk] using h
  rcases takeCrossing_cases s c with e | ⟨-, -, e⟩ | ⟨needle, -, -, e⟩ <;> rw [e]
  · exact h
  · exact reported _ _ _
  · unfold takeCourseTarget
    dsimp only
    split
    · exact reported _ _ _
    · exact h

theorem takeCrossings_keep_record {s : State} {k : BarIx} (h : s.faults.bars[k] ≠ none) (cs : List Crossing) :
    (takeCrossings s cs).1.faults.bars[k] ≠ none :=
  takeCrossings_keeps (P := fun t => t.faults.bars[k] ≠ none) (fun _ c h => takeCrossing_keeps_record h c) h cs

/-- Crossings request HOLD with the guard enable set alone, and then leave a bar's record occupied. -/
theorem takeCrossings_requests {s : State} {cs : List Crossing} (h : (takeCrossings s cs).2 = true) :
    s.node.guardEnable = true ∧ ∃ k : BarIx, (takeCrossings s cs).1.faults.bars[k] ≠ none := by
  induction cs generalizing s with
  | nil => cases h
  | cons c rest ih =>
    rw [takeCrossings, Bool.or_eq_true] at h
    rcases h with h | h
    · obtain ⟨hg, e⟩ := requestsHold_reports h
      refine ⟨hg, c.bar, takeCrossings_keep_record ?_ rest⟩
      rw [e, State.reportBar_faults_bars]
      simp [reportTo_ne_none]
    · obtain ⟨hg, hk⟩ := ih h
      exact ⟨by simpa using hg, hk⟩

theorem beforeHoldOf_subset (seed k : Nat) (held : List BarIx) (cs : List Crossing) :
    beforeHoldOf seed k held cs ⊆ cs := by
  induction cs generalizing k held with
  | nil => exact List.Subset.refl _
  | cons c rest ih =>
    unfold beforeHoldOf
    split
    · exact List.subset_cons_of_subset c (ih _ _)
    · exact List.cons_subset_cons c (ih _ _)

/-- Everything the crossings of an increment can do: no HOLD is requested and all are taken; all are taken and the HOLD is
still to come; or some are taken, a guard among them, and then the HOLD. -/
theorem takeIncrementCrossings_cases (seed : Nat) (s : State) (cs : List Crossing) :
    ((takeCrossings s cs).2 = false ∧ takeIncrementCrossings seed s cs = ((takeCrossings s cs).1, false))
      ∨ ((takeCrossings s cs).2 = true ∧ takeIncrementCrossings seed s cs = ((takeCrossings s cs).1, true))
      ∨ ((takeCrossings s cs).2 = true ∧ ∃ early, early ⊆ cs ∧ (takeCrossings s early).2 = true
        ∧ takeIncrementCrossings seed s cs = ((takeCrossings s early).1.requestHold false, false)) := by
  unfold takeIncrementCrossings
  dsimp only
  cases hall : (takeCrossings s cs).2 with
  | false => exact Or.inl ⟨rfl, rfl⟩
  | true =>
    right
    rw [if_neg Bool.true_eq_false.mp]
    split
    · exact Or.inl ⟨rfl, rfl⟩
    · refine Or.inr ⟨rfl, ?_⟩
      split
      · rename_i hearly
        exact ⟨_, beforeHoldOf_subset _ _ _ _, hearly, rfl⟩
      · exact ⟨cs, List.Subset.refl _, hall, rfl⟩

/-! ### An increment in RUNNING -/

/-- An increment in RUNNING that takes the crossings `taken` of those it issues, and then its slip and its boundary: a guard
requests no HOLD, or, with the guard enable set, a HOLD comes after these or before them. -/
def State.RunsTo (s : State) (forward level : Bool) (taken : List Crossing) (t : State) : Prop :=
  let u := (takeCrossings (s.begun forward level) taken).1
  ((takeCrossings (s.begun forward level) (incrementCrossings s forward level)).2 = false
      ∧ t = (u.slipPart s forward level).boundaryPart s forward level)
    ∨ (s.node.guardEnable = true ∧ (∃ k : BarIx, u.faults.bars[k] ≠ none)
      ∧ (t = ((u.slipPart s forward level).boundaryPart s forward level).requestHold false
        ∨ t = ((u.requestHold false).slipPart s forward level).boundaryPart s forward level))

theorem State.takeIncrement_running {s : State} (h : s.node.state = .running) (forward level : Bool) :
    ∃ taken, taken ⊆ incrementCrossings s forward level
      ∧ s.RunsTo forward level taken (s.takeIncrement forward level) := by
  have hc : s.node.state ≠ .catchup := by simp [h]
  rw [State.takeIncrement_eq hc]
  rcases takeIncrementCrossings_cases s.choices (s.begun forward level) (incrementCrossings s forward level) with
    ⟨hq, e⟩ | ⟨hr, e⟩ | ⟨-, early, he, hr, e⟩ <;> rw [e]
  · exact ⟨_, List.Subset.refl _, Or.inl ⟨hq, rfl⟩⟩
  · obtain ⟨hg, hk⟩ := takeCrossings_requests hr
    exact ⟨_, List.Subset.refl _, Or.inr ⟨hg, hk, Or.inl rfl⟩⟩
  · obtain ⟨hg, hk⟩ := takeCrossings_requests hr
    exact ⟨early, he, Or.inr ⟨hg, hk, Or.inr rfl⟩⟩

/-- With the guard enable clear the crossings are taken one after another and request nothing. -/
theorem State.takeIncrement_unguarded {s : State} (h : s.node.state = .running) (hg : s.node.guardEnable = false)
    (forward level : Bool) :
    s.takeIncrement forward level
      = ((takeCrossings (s.begun forward level) (incrementCrossings s forward level)).1.slipPart s forward
          level).boundaryPart s forward level := by
  have hc : s.node.state ≠ .catchup := by simp [h]
  have quiet : (takeCrossings (s.begun forward level) (incrementCrossings s forward level)).2 ≠ true := fun hr =>
    absurd ((takeCrossings_requests hr).1.symm.trans hg) (by decide)
  rw [State.takeIncrement_eq hc]
  rcases takeIncrementCrossings_cases s.choices (s.begun forward level) (incrementCrossings s forward level) with
    ⟨-, e⟩ | ⟨hr, -⟩ | ⟨hr, -⟩
  · rw [e]
    rfl
  · exact absurd hr quiet
  · exact absurd hr quiet

end Sys2Proof.Machine


-- ==== What an increment does to the tracker (O8, O9) ====
namespace Sys2Proof.Machine

/-! ### The ordinary part (R2, R10, R12) -/

theorem State.takeIncrement_turned (s : State) (forward level : Bool) :
    (s.takeIncrement forward level).tracker = s.tracker.turned forward level := by
  rw [State.takeIncrement_tracker]
  rfl

theorem Tracker.recrossAfter_eq (t : Tracker) (forward : Bool) :
    t.recrossAfter forward = if 0 < t.recross ∧ t.recrossForward = forward then t.recross - 1 else 0 := by
  simp [Tracker.recrossAfter, Tracker.withholds, Eq.comm (a := forward)]

theorem Tracker.sinceAfter_ordinary (t : Tracker) (forward : Bool) :
    t.sinceAfter forward false
      = if t.angleValid = false then 0 else if forward then t.sinceIndex + 1 else t.sinceIndex - 1 := by
  simp [Tracker.sinceAfter]

/-- What an increment leaves: the store, the expander, the classes, the ring port, the inputs, the waiting commands, and
of each bar its mode, reference, enable output and pending trim. -/
def shaftFrame (s t : State) : Prop :=
  t.store = s.store ∧ t.expander = s.expander ∧ t.engine = s.engine ∧ t.ring = s.ring ∧ t.homes = s.homes
    ∧ t.inReset = s.inReset ∧ t.pending = s.pending
    ∧ ∀ n : BarIx, t.bars[n].mode = s.bars[n].mode ∧ t.bars[n].referenced = s.bars[n].referenced
        ∧ t.bars[n].enable = s.bars[n].enable ∧ t.bars[n].pendingTrim = s.bars[n].pendingTrim

theorem shaftFrame_refl (s : State) : shaftFrame s s := ⟨rfl, rfl, rfl, rfl, rfl, rfl, rfl, fun _ => ⟨rfl, rfl, rfl, rfl⟩⟩

/-- Where a part leaves the same and the bars but for what a crossing or a boundary changes of them. -/
theorem shaftFrame.step {s t u : State} (h : shaftFrame s t)
    (hrest : u.store = t.store ∧ u.expander = t.expander ∧ u.engine = t.engine ∧ u.ring = t.ring ∧ u.homes = t.homes
      ∧ u.inReset = t.inReset ∧ u.pending = t.pending)
    (hbars : ∀ n : BarIx, u.bars[n].mode = t.bars[n].mode ∧ u.bars[n].referenced = t.bars[n].referenced
        ∧ u.bars[n].enable = t.bars[n].enable ∧ u.bars[n].pendingTrim = t.bars[n].pendingTrim) : shaftFrame s u := by
  obtain ⟨store, expander, engine, ring, homes, inReset, pending, bars⟩ := h
  obtain ⟨store', expander', engine', ring', homes', inReset', pending'⟩ := hrest
  refine ⟨store'.trans store, expander'.trans expander, engine'.trans engine, ring'.trans ring, homes'.trans homes,
    inReset'.trans inReset, pending'.trans pending, fun n => ?_⟩
  obtain ⟨mode, referenced, enable, trim⟩ := bars n
  obtain ⟨mode', referenced', enable', trim'⟩ := hbars n
  exact ⟨mode'.trans mode, referenced'.trans referenced, enable'.trans enable, trim'.trans trim⟩

/-- A boundary changes of the bars their active trims alone (R121). -/
theorem State.boundary_bars (s : State) (forward : Bool) (t : Nat) :
    (s.boundary forward t).bars = s.bars ∨ (forward = true ∧ (s.boundary forward t).bars = activateTrims s.bars) := by
  cases forward
  · exact Or.inl (State.reverseBoundary_bars s)
  · show (s.forwardBoundary t).bars = _ ∨ (_ ∧ (s.forwardBoundary t).bars = _)
    unfold State.forwardBoundary
    split
    · exact Or.inl rfl
    · split
      · exact Or.inl rfl
      · exact Or.inr ⟨rfl, by simp⟩
    all_goals split <;> exact Or.inr ⟨rfl, by simp⟩

theorem State.takeIncrement_frame (s : State) (forward level : Bool) : shaftFrame s (s.takeIncrement forward level) := by
  refine State.takeIncrement_keeps (P := shaftFrame s) (fun _ _ h => h) (fun _ _ h => h) (fun _ _ h => h) ?_
    (fun _ _ h => h) (fun _ _ h => h) ?_ (shaftFrame_refl s) forward level
  · intro t c h
    refine h.step ⟨by simp, by simp, by simp, by simp, by simp, by simp, by simp⟩ fun n => ?_
    obtain ⟨mode, referenced, enable, -, trim, -⟩ := (takeCrossing_crossed t c).2 n
    exact ⟨mode, referenced, enable, trim⟩
  · intro t f m h
    refine h.step ⟨by simp, by simp, by simp, by simp, by simp, by simp, by simp⟩ fun n => ?_
    rcases t.boundary_bars f m with e | ⟨-, e⟩ <;> rw [e]
    · exact ⟨rfl, rfl, rfl, rfl⟩
    · rw [Fin.getElem_fin, activateTrims_get]
      exact ⟨rfl, rfl, rfl, rfl⟩

theorem not_rises {s : State} {level : Bool} (h : ¬ s.indexRises level) : s.tracker.rises level = false := by
  rw [← Tracker.rises_iff] at h
  simpa using h

/-- Settles O8: the tracker by its ordinary part, and everything else by the frame of an increment. -/
theorem ordinaryIncrement : Obligations.OrdinaryIncrement := by
  intro s hs
  have inReset : s.inReset = false := hs.1
  refine ⟨fun level => ?_, fun level => ?_, fun forward level hi => ?_⟩
  · show execIncrement s.tracker.levelA s.tracker.levelB level s = _
    simp only [execIncrement, inReset, quadChange_same]
    rfl
  · show execIncrement (!s.tracker.levelA) (!s.tracker.levelB) level s = _
    rw [execIncrement, if_neg (by simp [inReset]), quadChange_double]
    rfl
  · refine ⟨_, exec_turn hs forward level, ?_, State.takeIncrement_frame (s.turnAdopted forward) forward level⟩
    rw [State.takeIncrement_turned, Tracker.turned_ordinary (t := (s.turnAdopted forward).tracker) forward (not_rises hi),
      Tracker.advance, Tracker.recrossAfter_eq, Tracker.sinceAfter_ordinary]
    rfl

/-! ### The index (R6 to R11, R16) -/

theorem forwardCorrection_values (v : Nat) :
    (forwardCorrection v).angle = 0 ∧ (forwardCorrection v).recross = if v ≤ 4 then v else 0 := by
  unfold forwardCorrection
  split
  · exact ⟨rfl, rfl⟩
  · split <;> exact ⟨rfl, rfl⟩

theorem reverseCorrection_values (v : Nat) :
    (reverseCorrection v).angle = 1439 ∧ (reverseCorrection v).recross = if 1435 ≤ v then 1439 - v else 0 := by
  unfold reverseCorrection
  split
  · exact ⟨rfl, rfl⟩
  · split <;> exact ⟨rfl, rfl⟩

/-- The tracker after a forward index with the angle valid (R7, R9, R16). -/
theorem Tracker.turned_forward {t : Tracker} {level : Bool} (hr : t.rises level = true) (hv : t.angleValid = true) :
    t.turned true level
      = ((t.advance true true level).corrected true (forwardCorrection (nextAngle t.angle true))).capture := by
  simp [Tracker.turned, Tracker.correction_some true hr hv, hr, correctionOf]

/-- The tracker after a reverse index with the angle valid (R8, R9). -/
theorem Tracker.turned_reverse {t : Tracker} {level : Bool} (hr : t.rises level = true) (hv : t.angleValid = true) :
    t.turned false level
      = (t.advance false true level).corrected false (reverseCorrection (nextAngle t.angle false)) := by
  simp [Tracker.turned, Tracker.correction_some false hr hv, hr, correctionOf]

/-- The tracker after the first index while the angle is invalid (R11). -/
theorem Tracker.turned_validates {t : Tracker} {level : Bool} (forward : Bool) (hr : t.rises level = true)
    (hv : t.angleValid = false) : t.turned forward level = (t.advance forward true level).validate forward := by
  simp [Tracker.turned, Tracker.correction_none forward (Or.inr hv), hr]

theorem Tracker.corrected_recrossForward {t : Tracker} {forward : Bool} {c : Correction}
    (h : (t.corrected forward c).recross ≠ 0) : (t.corrected forward c).recrossForward = forward := by
  have : c.recross ≠ 0 := h
  simp [Tracker.corrected, this]

theorem Tracker.sinceAfter_index (t : Tracker) (forward : Bool) : t.sinceAfter forward true = 0 := by
  simp [Tracker.sinceAfter]

/-- While the angle is invalid an increment changes the tracker alone (R11). -/
theorem State.takeIncrement_invalid {s : State} (hv : s.tracker.angleValid = false) (hc : s.node.state ≠ .catchup)
    (forward level : Bool) :
    s.takeIncrement forward level
      = { s with tracker := s.tracker.turned forward level, choices := s.choices + 1 } := by
  have slips : s.tracker.slips forward level = false := by
    rw [Tracker.slips, Tracker.correction_none forward (Or.inr hv)]
    rfl
  have crosses : s.tracker.crosses forward level = false := by
    simp [Tracker.crosses, ordinaryBoundary, hv, Tracker.correction_none forward (Or.inr hv)]
  rw [State.takeIncrement_uncrossed hc (incrementCrossings_invalid hv forward level), State.slipPart_none slips,
    State.boundaryPart_none crosses]
  rfl

/-- Settles O9: the tracker by the correction or the validation, and the rest untouched while the angle is invalid. -/
theorem indexIncrement : Obligations.IndexIncrement := by
  intro s forward hs hi
  have hr : (s.turnAdopted forward).tracker.rises true = true := by
    show (true && !s.tracker.indexWas) = true
    rw [hi]
    rfl
  refine ⟨_, exec_turn hs forward true, ?_⟩
  rw [State.takeIncrement_turned]
  cases hv : s.tracker.angleValid with
  | true =>
    have hv' : (s.turnAdopted forward).tracker.angleValid = true := hv
    cases forward
    · obtain ⟨angle, recross⟩ := reverseCorrection_values (s.turned false)
      rw [Tracker.turned_reverse hr hv']
      exact ⟨hv, Tracker.sinceAfter_index _ _, rfl, rfl, rfl, rfl, nofun,
        fun _ _ => ⟨angle, recross, Tracker.corrected_recrossForward, rfl, rfl, Bool.or_true _⟩, nofun,
        nofun, nofun⟩
    · obtain ⟨angle, recross⟩ := forwardCorrection_values (s.turned true)
      rw [Tracker.turned_forward hr hv']
      refine ⟨hv, Tracker.sinceAfter_index _ _, rfl, rfl, rfl, rfl,
        fun _ _ => ⟨angle, recross, Tracker.corrected_recrossForward (forward := true), ?_, rfl, rfl⟩, nofun,
        nofun, nofun, nofun⟩
      show Tracker.captured _ = _
      simp [Tracker.captured, Tracker.corrected, Tracker.advance, State.turnAdopted, State.adoptLevels, saturated]
  | false =>
    have hv' : (s.turnAdopted forward).tracker.angleValid = false := hv
    rw [Tracker.turned_validates forward hr hv']
    have untouched : s.node.state ≠ .catchup →
        let t := (s.turnAdopted forward).takeIncrement forward true
        t.queue = s.queue ∧ t.bars = s.bars ∧ t.faults = s.faults ∧ t.node = s.node := by
      intro hc
      rw [State.takeIncrement_invalid hv' hc]
      exact ⟨rfl, rfl, rfl, rfl⟩
    cases forward
    · exact ⟨rfl, rfl, rfl, rfl, rfl, rfl, nofun, nofun, nofun,
        fun _ _ => ⟨rfl, rfl, rfl, rfl, rfl⟩, fun _ => untouched⟩
    · exact ⟨rfl, rfl, rfl, rfl, rfl, rfl, nofun, nofun,
        fun _ _ => ⟨rfl, rfl, rfl, rfl, rfl⟩, nofun, fun _ => untouched⟩

end Sys2Proof.Machine


-- ==== A missing index, and increments outside RUNNING (O11, O12, O13, O16) ====
namespace Sys2Proof.Machine

/-! ### The queue stepped (R87, R88) -/

theorem Queue.stepped_current {q : Queue} {cur : CourseRecord} (h : q.current = some cur) (head : CourseRecord)
    (rest : List CourseRecord) :
    q.stepped head rest = { q with
      history := (if 8 ≤ q.history.length then q.history.drop 1 else q.history) ++ [cur]
      current := some head
      pending := rest } := by
  rw [Queue.stepped, h]
  rfl

theorem Queue.stepped_first {q : Queue} (h : q.current = none) (head : CourseRecord) (rest : List CourseRecord) :
    q.stepped head rest = { q with current := some head, pending := rest } := by
  rw [Queue.stepped, h]

/-- The queue after a step, its history by the record that was current (R74, R87, R88). -/
theorem Queue.stepped_eq (q : Queue) (head : CourseRecord) (rest : List CourseRecord) :
    q.stepped head rest = { q with
      history := (match q.current with
        | some cur => (if 8 ≤ q.history.length then q.history.drop 1 else q.history) ++ [cur]
        | none => q.history)
      current := some head
      pending := rest } := by
  cases h : q.current with
  | none => rw [Queue.stepped_first h]
  | some cur => rw [Queue.stepped_current h]

theorem trimsActive_of_bars {s t : State} (h : t.bars = activateTrims s.bars) : trimsActive s t := by
  intro n
  rw [h]
  exact activateTrims_get s.bars n.val n.isLt

theorem barsButTrims_of_bars {s t : State} (h : t.bars = s.bars ∨ t.bars = activateTrims s.bars) : barsButTrims s t := by
  intro n
  rcases h with h | h
  · rw [h]
  · rw [trimsActive_of_bars h n]

/-! ### INDEX_MISSING and the standstill (R12, R14) -/

theorem settleIndex_missing {s : State} (hv : s.tracker.angleValid = true) (hd : 1449 ≤ s.tracker.sinceIndex) :
    s.settleIndex = s.indexMissing := by
  rw [State.settleIndex, if_pos (by simp [Tracker.indexOverdue, hv, missingAt, hd])]

/-- The boundary of a 1449th increment is owed where that increment wrapped the counter. -/
theorem Tracker.boundaryOwed_iff {t : Tracker} (hv : t.angleValid = true) (hd : 1449 ≤ t.sinceIndex) :
    t.boundaryOwed = true ↔ t.angle = 0 := by
  simp [Tracker.boundaryOwed, Tracker.indexOverdue, hv, missingAt, hd]

/-- A missing index without a boundary to issue: the report and the hand-over (R12, R138). -/
theorem State.indexMissing_unowed {s : State} (hv : s.tracker.angleValid = true) (hd : 1449 ≤ s.tracker.sinceIndex)
    (h : s.tracker.angle ≠ 0 ∨ s.node.state = .offline ∨ s.node.state = .armed) :
    s.indexMissing = { s with
      tracker := { s.tracker with angleValid := false, sinceIndex := 0, recross := 0 }
      faults := { s.faults with node := s.nodeRecord .indexMissing s.currentTag s.tracker.angle }
      node := s.node.requestHold true } := by
  rw [State.indexMissing_eq, State.nodeRecord_eq]
  by_cases ho : s.tracker.boundaryOwed = true ∧ s.node.state ≠ .armed
  · obtain ⟨hb, harmed⟩ := ho
    have offline : s.node.state = .offline := by
      rcases h with h | h | h
      · exact absurd ((Tracker.boundaryOwed_iff hv hd).mp hb) h
      · exact h
      · exact absurd h harmed
    have still : (s.node.requestHold true).state = .offline := by
      rw [Node.requestHold_idle true (Or.inl offline), offline]
    dsimp only
    rw [if_pos ⟨hb, harmed⟩, State.boundary, if_pos rfl,
      State.forwardBoundary_offline (s := (s.reportNode .indexMissing s.currentTag s.tracker.angle).requestHold true) still]
    rfl
  · dsimp only
    rw [if_neg ho]
    rfl

/-- The state once a missing index is reported and handed over, before the boundary it may owe (R12, R138). -/
def State.missed (s : State) : State := (s.reportNode .indexMissing s.currentTag s.tracker.angle).requestHold true

theorem State.missed_fields (s : State) :
    s.missed.queue = s.queue ∧ s.missed.bars = s.bars ∧ s.missed.faults.bars = s.faults.bars
      ∧ s.missed.node = s.node.requestHold true
      ∧ s.missed.faults.node = s.nodeRecord .indexMissing s.currentTag s.tracker.angle :=
  ⟨rfl, rfl, rfl, rfl, (State.nodeRecord_eq _ _ _ _).symm⟩

/-- A missing index whose increment wrapped the counter: the boundary follows the hand-over, in HOLD (R166; entry 32). -/
theorem State.indexMissing_owed {s : State} (hv : s.tracker.angleValid = true) (hd : 1449 ≤ s.tracker.sinceIndex)
    (h0 : s.tracker.angle = 0) (hf : s.node.state.follows) :
    s.indexMissing = { s.missed.forwardBoundary s.tracker.tMeas with
      tracker := { s.tracker with angleValid := false, sinceIndex := 0, recross := 0 } } := by
  have harmed : s.node.state ≠ .armed := by rcases hf with h | h | h <;> simp [h]
  rw [State.indexMissing_eq]
  dsimp only
  rw [if_pos ⟨(Tracker.boundaryOwed_iff hv hd).mpr h0, harmed⟩]
  rfl

/-- A missing index's hold request, and a second one, which changes nothing more. -/
theorem Node.requestHold_missing {n : Node} (h : n.state.follows) :
    n.requestHold true = (if n.state = .hold then { n with desync := true } else n.heldOutOfStep)
      ∧ (n.requestHold true).requestHold true = n.requestHold true := by
  rcases h with h | h | h
  · rw [Node.requestHold_outOfStep (Or.inl h), if_neg (by simp [h])]
    exact ⟨rfl, by simp [Node.requestHold, Node.heldOutOfStep]⟩
  · rw [Node.requestHold_stays true h, if_pos h, Bool.or_true]
    exact ⟨rfl, by simp [Node.requestHold, h]⟩
  · rw [Node.requestHold_outOfStep (Or.inr h), if_neg (by simp [h])]
    exact ⟨rfl, by simp [Node.requestHold, Node.heldOutOfStep]⟩

/-- In HOLD a forward boundary with nothing pending: the trims active, DESYNC and a report (R89, R121). -/
theorem State.heldBoundary_dry {u : State} (hu : u.node.state = .hold) (hp : u.queue.pending = []) (m : Nat) :
    let w := u.forwardBoundary m
    w.queue = u.queue ∧ w.bars = activateTrims u.bars ∧ w.faults.bars = u.faults.bars ∧ w.node = u.node.requestHold true
      ∧ w.faults.node = reportTo u.faults.node .holdCrossing u.currentTag 0 := by
  rw [State.forwardBoundary_dry (Or.inr (Or.inl hu)) hp]
  have code : (if u.node.state = .running then NodeCode.starved else .holdCrossing) = .holdCrossing :=
    if_neg (by simp [hu])
  exact ⟨State.runDry_queue u, rfl, rfl, rfl, congrArg (reportTo u.faults.node · u.currentTag 0) code⟩

/-- In HOLD a forward boundary with a record pending steps the queue and makes the trims active (R88, R121). -/
theorem State.heldBoundary_steps {u : State} (hu : u.node.state = .hold) {head : CourseRecord} {rest : List CourseRecord}
    (hp : u.queue.pending = head :: rest) (m : Nat) : u.forwardBoundary m = u.queueStepped head rest := by
  rw [State.forwardBoundary_steps (Or.inr (Or.inl hu)) hp, State.stepQueue_held (by simp [hu])]

/-- The 1449th increment leaves the boundary it wraps over until INDEX_MISSING (R166). -/
theorem State.takeIncrement_leaves {s : State} {level : Bool} (hs : s.samples) (hi : ¬ s.indexRises level)
    (h1448 : s.tracker.sinceIndex = 1448) (h1439 : s.tracker.angle = 1439) (hc : s.node.state ≠ .catchup) :
    s.takeIncrement true level
      = { s.begun true level with tracker := s.tracker.advance true false level } := by
  have slips : s.tracker.slips true level = false := by
    rw [Tracker.slips, Tracker.correction_none true (Or.inl (not_rises hi))]
    rfl
  have crosses : s.tracker.crosses true level = false := by
    rw [← Bool.not_eq_true, hs.crosses_iff, State.crossesBoundary, if_pos rfl]
    rintro ⟨-, ⟨-, hi' | hlt⟩ | ⟨hi', -⟩⟩
    · exact hi hi'
    · omega
    · exact hi hi'
  rw [State.takeIncrement_uncrossed hc (incrementCrossings_wrap (forward := true) h1439 level), State.slipPart_none slips,
    State.boundaryPart_none crosses, Tracker.turned_ordinary true (not_rises hi)]

/-- Settles O11: the hand-over, the boundary after it in HOLD, the increment that leaves it, and the standstill. -/
theorem indexMissingAndStandstill : Obligations.IndexMissingAndStandstill := by
  refine ⟨fun s hv hd => ⟨fun h => ?_, fun h0 hf => ?_⟩, fun s level hs hv hi h1448 h1439 hc => ?_, fun s k hk => ?_⟩
  · refine ⟨s.node.requestHold true, ?_, fun h => Node.requestHold_idle true h, fun h => Node.requestHold_outOfStep h,
      fun h => ?_⟩
    · show Host.Outcome.next s.settleIndex = _
      rw [settleIndex_missing hv hd, State.indexMissing_unowed hv hd h]
    · rw [Node.requestHold_stays true h, Bool.or_true]
  · obtain ⟨queue, bars, records, node, noted⟩ := s.missed_fields
    have held : s.missed.node.state = .hold := by rw [node, Node.requestHold_hold hf true]
    obtain ⟨once, twice⟩ := Node.requestHold_missing hf
    refine ⟨s.indexMissing, congrArg _ (settleIndex_missing hv hd), rfl, ?_⟩
    rw [State.indexMissing_owed hv hd h0 hf, ← once, ← noted]
    cases hp : s.queue.pending with
    | nil =>
      obtain ⟨wqueue, wbars, wrecords, wnode, wnoted⟩ := State.heldBoundary_dry held (by rw [queue, hp]) s.tracker.tMeas
      obtain ⟨c, hc⟩ := Option.ne_none_iff_exists'.mp
        (reportTo_ne_none s.faults.node .indexMissing s.currentTag s.tracker.angle)
      have hc : s.missed.faults.node = some c := hc
      refine ⟨trimsActive_of_bars (wbars.trans (congrArg activateTrims bars)), wrecords.trans records,
        wnode.trans (by rw [node, twice]), nofun, fun _ => ⟨wqueue.trans queue, c, hc, wnoted.trans ?_⟩⟩
      rw [hc, reportTo_some]
    | cons head rest =>
      rw [State.heldBoundary_steps held (by rw [queue, hp])]
      refine ⟨trimsActive_of_bars (congrArg activateTrims bars), records, node, fun _ _ e => ?_, nofun⟩
      cases e
      refine ⟨rfl, ?_⟩
      show s.missed.queue.stepped head rest = _
      rw [queue]
      exact Queue.stepped_eq _ _ _
  · refine ⟨_, exec_turn hs true level, ?_⟩
    rw [State.takeIncrement_leaves (s := s.turnAdopted true) hs hi h1448 h1439 hc]
    refine ⟨?_, ?_, hv, rfl, rfl, rfl, rfl⟩
    · show nextAngle s.tracker.angle true = 0
      rw [h1439]
      rfl
    · show s.tracker.sinceAfter true false = 1449
      simp [Tracker.sinceAfter, hv, h1448]
  · show Host.Outcome.next _ = _
    rw [if_pos (by rw [hk]; rfl)]
    rfl

/-! ### HOLD and CATCHUP: the queue follows (R86, R147) -/

/-- What an increment in HOLD or CATCHUP keeps up to its boundary: the queue, the bars and their records. -/
def Standing (s v : State) : Prop :=
  (v.node.state = .hold ∨ v.node.state = .catchup) ∧ v.queue = s.queue ∧ v.bars = s.bars ∧ v.faults.bars = s.faults.bars

theorem Standing.follows {s v : State} (h : Standing s v) : v.node.state.follows := Or.inr h.1

theorem Standing.slipPart {s v : State} (h : Standing s v) (r : State) (forward level : Bool) :
    Standing s (v.slipPart r forward level) := by
  obtain ⟨st, hq, hb, hf⟩ := h
  unfold State.slipPart
  split
  · exact ⟨Or.inl (Node.requestHold_hold (Or.inr st) true), hq, hb, hf⟩
  · exact ⟨st, hq, hb, hf⟩

theorem Standing.disturbed {s v : State} (h : Standing s v) (a : Nat) :
    Standing s (v.disturbed a) ∧ (v.disturbed a).node.state = .hold := by
  obtain ⟨st, hq, hb, hf⟩ := h
  have hold : (v.disturbed a).node.state = .hold := Node.requestHold_hold (n := v.node) (Or.inr st) false
  exact ⟨⟨Or.inl hold, hq, hb, hf⟩, hold⟩

theorem State.slipPart_hold {v : State} (h : v.node.state = .hold) (r : State) (forward level : Bool) :
    (v.slipPart r forward level).node.state = .hold := by
  unfold State.slipPart
  split
  · exact Node.requestHold_hold (n := v.node) (Or.inr (Or.inl h)) true
  · exact h

/-- The boundary part leaves the node in HOLD or CATCHUP as it is, or takes HOLD and DESYNC. -/
theorem State.boundaryPart_node {u : State} (h : u.node.state = .hold ∨ u.node.state = .catchup) (r : State)
    (forward level : Bool) :
    (u.boundaryPart r forward level).node = u.node ∨ (u.boundaryPart r forward level).node = u.node.requestHold true := by
  unfold State.boundaryPart
  dsimp only
  split
  · exact State.boundary_node (u := { u with tracker := r.tracker.turned forward level }) h forward _
  · exact Or.inl rfl

theorem State.boundaryPart_hold {u : State} (h : u.node.state = .hold) (r : State) (forward level : Bool) :
    (u.boundaryPart r forward level).node.state = .hold := by
  rcases State.boundaryPart_node (Or.inl h) r forward level with e | e <;> rw [e]
  · exact h
  · exact Node.requestHold_hold (Or.inr (Or.inl h)) true

/-- An increment ends in HOLD with what its boundary leaves; a CATCHUP_DISTURBED after the boundary adds its report alone. -/
def Settles (w t : State) : Prop :=
  t.node.state = .hold ∧ t.queue = w.queue ∧ t.bars = w.bars ∧ t.faults.bars = w.faults.bars
    ∧ (w.node.desync = true → t.node.desync = true) ∧ (w.faults.node ≠ none → t.faults.node ≠ none)

theorem Settles.refl {w : State} (h : w.node.state = .hold) : Settles w w := ⟨h, rfl, rfl, rfl, id, id⟩

theorem Settles.disturbed {w : State} (h : w.node.state.follows) (a : Nat) : Settles w (w.disturbed a) := by
  refine ⟨Node.requestHold_hold (n := w.node) h false, rfl, rfl, rfl, fun hd => ?_, fun _ => reportTo_ne_none _ _ _ _⟩
  show (w.node.requestHold false).desync = true
  rw [Node.requestHold_desync h, hd]
  rfl

/-- An increment in HOLD or CATCHUP, wherever CATCHUP_DISTURBED stands in it (entry 5). -/
theorem State.takeIncrement_follows {s : State} (h : s.node.state = .hold ∨ s.node.state = .catchup)
    (forward level : Bool) :
    ∃ v, Standing s v ∧ Settles (v.boundaryPart s forward level) (s.takeIncrement forward level) := by
  have begun : Standing s (s.begun forward level) := ⟨h, rfl, rfl, rfl⟩
  have slipped := begun.slipPart s forward level
  rcases h with h | h
  · refine ⟨_, slipped, ?_⟩
    rw [State.takeIncrement_standing (Or.inr (Or.inr h))]
    exact Settles.refl (State.boundaryPart_hold (State.slipPart_hold (v := s.begun forward level) h s forward level) s forward level)
  · rcases State.takeIncrement_catchup h forward level with e | e | e <;> rw [e]
    · obtain ⟨first, hold⟩ := begun.disturbed (s.turned forward)
      exact ⟨_, first.slipPart s forward level,
        Settles.refl (State.boundaryPart_hold (State.slipPart_hold hold s forward level) s forward level)⟩
    · obtain ⟨second, hold⟩ := slipped.disturbed (s.turned forward)
      exact ⟨_, second, Settles.refl (State.boundaryPart_hold hold s forward level)⟩
    · refine ⟨_, slipped, Settles.disturbed ?_ _⟩
      rcases State.boundaryPart_node slipped.1 s forward level with e | e <;> rw [e]
      · exact slipped.follows
      · exact Or.inr (Or.inl (Node.requestHold_hold slipped.follows true))

/-- An increment in HOLD that is no slip: its boundary alone. -/
theorem State.takeIncrement_hold {s : State} (h : s.node.state = .hold) {forward level : Bool}
    (hs : s.tracker.slips forward level = false) :
    s.takeIncrement forward level = (s.begun forward level).boundaryPart s forward level := by
  rw [State.takeIncrement_standing (Or.inr (Or.inr h)), State.slipPart_none hs]

/-- What a boundary with nothing to take leaves of the node record and DESYNC: a report, HOLD and DESYNC. -/
theorem desync_requestHold {n : Node} (h : n.state.follows) : (n.requestHold true).desync = true := by
  rw [Node.requestHold_desync h, Bool.or_true]

/-- A forward increment in HOLD or CATCHUP, with the record current then. -/
theorem State.takeIncrement_follows_forward {s : State} {level : Bool} {cur : CourseRecord} (hs : s.samples)
    (h : s.node.state = .hold ∨ s.node.state = .catchup) (hc : s.queue.current = some cur) :
    let t := s.takeIncrement true level
    t.node.state = .hold ∧ barsButTrims s t ∧ t.faults.bars = s.faults.bars
      ∧ (s.crossesBoundary true level →
          trimsActive s t
          ∧ (∀ head rest, s.queue.pending = head :: rest →
              t.queue = { s.queue with
                history := (if 8 ≤ s.queue.history.length then s.queue.history.drop 1 else s.queue.history) ++ [cur]
                current := some head
                pending := rest })
          ∧ (s.queue.pending = [] → t.queue = s.queue ∧ t.node.desync = true ∧ t.faults.node ≠ none
              ∧ (s.node.state = .hold → s.tracker.slips true level = false →
                t.faults = { s.faults with node := s.nodeRecord .holdCrossing (some cur.tag) 0 })))
      ∧ (¬ s.crossesBoundary true level → t.queue = s.queue ∧ t.bars = s.bars) := by
  intro t
  obtain ⟨v, hv, ht⟩ := State.takeIncrement_follows h true level
  obtain ⟨thold, tqueue, tbars, tfaults, tdesync, tnode⟩ := ht
  have vfollows := hv.follows
  obtain ⟨vst, vqueue, vbars, vfaults⟩ := hv
  have vrun : v.node.state ≠ .running := by rcases vst with e | e <;> simp [e]
  rw [State.boundaryPart_faultBars, vfaults] at tfaults
  by_cases hx : s.crossesBoundary true level
  · have crosses := (hs.crosses_iff true level).mpr hx
    rw [State.boundaryPart_forward crosses] at tqueue tbars tdesync tnode
    cases hp : s.queue.pending with
    | cons head rest =>
      have hp' : v.queue.pending = head :: rest := by rw [vqueue, hp]
      rw [State.forwardBoundary_steps (s := { v with tracker := s.tracker.turned true level }) vfollows hp',
        State.stepQueue_held (s := { v with tracker := s.tracker.turned true level }) vrun] at tqueue tbars
      have active : t.bars = activateTrims s.bars := by rw [tbars, ← vbars]; rfl
      refine ⟨thold, barsButTrims_of_bars (Or.inr active), tfaults,
        fun _ => ⟨trimsActive_of_bars active, fun _ _ e => ?_, nofun⟩, fun hn => absurd hx hn⟩
      cases e
      rw [tqueue]
      show v.queue.stepped head rest = _
      rw [vqueue, Queue.stepped_current hc]
    | nil =>
      have hp' : v.queue.pending = [] := by rw [vqueue, hp]
      rw [State.forwardBoundary_dry (s := { v with tracker := s.tracker.turned true level }) vfollows hp']
        at tqueue tbars tdesync tnode
      have active : t.bars = activateTrims s.bars := by rw [tbars, ← vbars]; rfl
      refine ⟨thold, barsButTrims_of_bars (Or.inr active), tfaults, fun _ => ⟨trimsActive_of_bars active, nofun,
        fun _ => ⟨tqueue.trans vqueue, tdesync (desync_requestHold vfollows), tnode (reportTo_ne_none _ _ _ _), ?_⟩⟩,
        fun hn => absurd hx hn⟩
      intro hold slips
      show (s.takeIncrement true level).faults = _
      rw [State.takeIncrement_hold hold slips, State.boundaryPart_forward crosses, State.forwardBoundary_dry
        (s := { s.begun true level with tracker := s.tracker.turned true level }) (Or.inr (Or.inl hold)) hp,
        State.nodeRecord_eq]
      simp only [State.runDry, State.begun, hold]
      simp [State.reportNode, State.requestHold, State.currentTag, hc]
  · have crosses : s.tracker.crosses true level = false := by
      rw [← Bool.not_eq_true, hs.crosses_iff]
      exact hx
    rw [State.boundaryPart_none crosses] at tqueue tbars
    have same : t.bars = s.bars := tbars.trans vbars
    exact ⟨thold, barsButTrims_of_bars (Or.inl same), tfaults, fun e => absurd e hx, fun _ => ⟨tqueue.trans vqueue, same⟩⟩

end Sys2Proof.Machine


namespace Sys2Proof.Machine

/-- A reverse increment in HOLD or CATCHUP, with the record current then. -/
theorem State.takeIncrement_follows_reverse {s : State} {level : Bool} {cur : CourseRecord} (hs : s.samples)
    (h : s.node.state = .hold ∨ s.node.state = .catchup) (hc : s.queue.current = some cur) :
    let t := s.takeIncrement false level
    t.node.state = .hold ∧ t.bars = s.bars ∧ t.faults.bars = s.faults.bars
      ∧ (s.crossesBoundary false level →
          (∀ older newest, s.queue.history = older ++ [newest] →
            (s.queue.pending.length < 16 → t.queue = { s.queue with
                history := older, current := some newest, pending := cur :: s.queue.pending })
            ∧ (∀ keep tail, s.queue.pending = keep ++ [tail] → 16 ≤ s.queue.pending.length → t.queue = { s.queue with
                history := older, current := some newest, pending := cur :: keep, expected := some tail.tag }))
          ∧ (s.queue.history = [] → t.queue = s.queue ∧ t.node.desync = true ∧ t.faults.node ≠ none
              ∧ (s.node.state = .hold → s.tracker.slips false level = false →
                t.faults = { s.faults with node := s.nodeRecord .retraceExhausted (some cur.tag) 1439 })))
      ∧ (¬ s.crossesBoundary false level → t.queue = s.queue) := by
  intro t
  obtain ⟨v, hv, ht⟩ := State.takeIncrement_follows h false level
  obtain ⟨thold, tqueue, tbars, tfaults, tdesync, tnode⟩ := ht
  have vfollows := hv.follows
  obtain ⟨vst, vqueue, vbars, vfaults⟩ := hv
  rw [State.boundaryPart_faultBars, vfaults] at tfaults
  by_cases hx : s.crossesBoundary false level
  · have crosses := (hs.crosses_iff false level).mpr hx
    rw [State.boundaryPart_reverse crosses] at tqueue tbars tdesync tnode
    have same : t.bars = s.bars := by rw [tbars, State.reverseBoundary_bars]; exact vbars
    refine ⟨thold, same, tfaults, fun _ => ⟨fun older newest hh => ?_, fun hh => ?_⟩, fun hn => absurd hx hn⟩
    · have hh' : v.queue.history = older ++ [newest] := by rw [vqueue, hh]
      rw [State.reverseBoundary_retraces (s := { v with tracker := s.tracker.turned false level }) vfollows hh'] at tqueue
      have retraced : t.queue = s.queue.retraced newest := by rw [tqueue, ← vqueue]
      rw [retraced]
      exact ⟨Queue.retraced_room hh hc, fun _ _ hk hp => Queue.retraced_full hh hc hk hp⟩
    · have hh' : v.queue.history = [] := by rw [vqueue, hh]
      rw [State.reverseBoundary_exhausted (s := { v with tracker := s.tracker.turned false level }) vfollows hh']
        at tqueue tdesync tnode
      refine ⟨tqueue.trans vqueue, tdesync (desync_requestHold vfollows), tnode (reportTo_ne_none _ _ _ _), ?_⟩
      intro hold slips
      show (s.takeIncrement false level).faults = _
      rw [State.takeIncrement_hold hold slips, State.boundaryPart_reverse crosses, State.reverseBoundary_exhausted
        (s := { s.begun false level with tracker := s.tracker.turned false level }) (Or.inr (Or.inl hold)) hh,
        State.nodeRecord_eq, ← show s.currentTag = some cur.tag by rw [State.currentTag, hc]; rfl]
      rfl
  · have crosses : s.tracker.crosses false level = false := by
      rw [← Bool.not_eq_true, hs.crosses_iff]
      exact hx
    rw [State.boundaryPart_none crosses] at tqueue tbars
    exact ⟨thold, tbars.trans vbars, tfaults, fun e => absurd e hx, fun _ => tqueue.trans vqueue⟩

/-- An index inside the tolerance is no slip (R7, R8). -/
theorem Tracker.slips_within {s : State} {forward level : Bool}
    (h : s.indexRises level → ¬ outsideTolerance forward (s.turned forward)) : s.tracker.slips forward level = false := by
  rw [← Bool.not_eq_true, Tracker.slips_iff]
  rintro ⟨-, hi, ho⟩
  exact h hi ho

/-- Settles O12: the boundary of an increment in HOLD or CATCHUP, whose crossing is that of the counter or the index. -/
theorem holdFollowsForward : Obligations.HoldFollowsForward := by
  intro s level cur hs hv hst hc
  have moves := State.takeIncrement_follows_forward (s := s.turnAdopted true) (level := level) hs hst hc
  obtain ⟨thold, ttrims, tfaults, tcross, tstay⟩ := moves
  refine ⟨_, exec_turn hs true level, thold, ttrims, tfaults, fun hx => ?_, fun hx => tstay fun h => hx h.2⟩
  obtain ⟨active, steps, dry⟩ := tcross ⟨hv, hx⟩
  refine ⟨active, steps, fun hp => ?_⟩
  obtain ⟨tqueue, tdesync, tnode, hold⟩ := dry hp
  refine ⟨tqueue, tdesync, tnode, fun hst hi => hold hst (Tracker.slips_within fun hr ho => ?_)⟩
  have within := hi hr
  have outside : 5 ≤ s.turned true ∧ s.turned true ≤ 1435 := ho
  omega

/-- Settles O13: the same in reverse, where the boundary retraces. -/
theorem holdFollowsReverse : Obligations.HoldFollowsReverse := by
  intro s level cur hs hv hst hc
  have moves := State.takeIncrement_follows_reverse (s := s.turnAdopted false) (level := level) hs hst hc
  obtain ⟨thold, tbars, tfaults, tcross, tstay⟩ := moves
  refine ⟨_, exec_turn hs false level, thold, tbars, tfaults, fun hx => ?_, fun hx => tstay fun h => hx h.2⟩
  obtain ⟨retraces, exhausted⟩ := tcross ⟨hv, hx⟩
  refine ⟨retraces, fun hh => ?_⟩
  obtain ⟨tqueue, tdesync, tnode, hold⟩ := exhausted hh
  refine ⟨tqueue, tdesync, tnode, fun hst hi => hold hst (Tracker.slips_within fun hr ho => ?_)⟩
  have within := hi hr
  have outside : 4 ≤ s.turned false ∧ s.turned false ≤ 1434 := ho
  omega

/-! ### OFFLINE and ARMED (R136, R138) -/

/-- In OFFLINE and ARMED a slip is reported and leaves the node. -/
theorem State.slipPart_idle {u : State} (h : u.node.state = .offline ∨ u.node.state = .armed) (s : State)
    (forward level : Bool) : (u.slipPart s forward level).node = u.node := by
  unfold State.slipPart
  split
  · exact Node.requestHold_idle true h
  · rfl

/-- The boundaries that start nothing: in OFFLINE all, in ARMED the reverse ones and those with nothing pending. -/
theorem State.boundary_idle {u : State} {forward : Bool}
    (h : u.node.state = .offline ∨ (u.node.state = .armed ∧ (forward = false ∨ u.queue.pending = []))) (t : Nat) :
    u.boundary forward t = u := by
  rcases h with h | ⟨h, rfl | hp⟩
  · cases forward
    · exact State.reverseBoundary_idle (Or.inl h)
    · exact State.forwardBoundary_offline h t
  · exact State.reverseBoundary_idle (Or.inr h)
  · cases forward
    · exact State.reverseBoundary_idle (Or.inr h)
    · exact State.forwardBoundary_armed_empty h hp t

/-- The boundary part changes of the bars the active trims alone, and in reverse nothing of them. -/
theorem State.boundaryPart_bars (u s : State) (forward level : Bool) :
    (u.boundaryPart s forward level).bars = u.bars
      ∨ (forward = true ∧ (u.boundaryPart s forward level).bars = activateTrims u.bars) := by
  unfold State.boundaryPart
  dsimp only
  split
  · exact State.boundary_bars { u with tracker := s.tracker.turned forward level } forward _
  · exact Or.inl rfl

/-- A boundary part that starts nothing leaves all but the tracker. -/
theorem State.boundaryPart_idle {u s : State} {forward level : Bool}
    (h : u.node.state = .offline ∨ (u.node.state = .armed
      ∧ (forward = false ∨ u.queue.pending = [] ∨ s.tracker.crosses forward level = false))) :
    u.boundaryPart s forward level = { u with tracker := s.tracker.turned forward level } := by
  cases hx : s.tracker.crosses forward level with
  | false => exact State.boundaryPart_none hx u
  | true =>
    have idle : u.node.state = .offline ∨ (u.node.state = .armed ∧ (forward = false ∨ u.queue.pending = [])) := by
      simpa [hx] using h
    rw [State.boundaryPart, hx]
    exact State.boundary_idle (u := { u with tracker := s.tracker.turned forward level }) idle _

/-- What an increment leaves of the bars and their records, by the state its boundary finds. -/
theorem boundaryPart_leaves_bars {s v t : State} {forward level : Bool} (vbars : v.bars = s.bars)
    (vfaults : v.faults.bars = s.faults.bars) (tbars : t.bars = (v.boundaryPart s forward level).bars)
    (tfaults : t.faults.bars = (v.boundaryPart s forward level).faults.bars) :
    barsButTrims s t ∧ t.faults.bars = s.faults.bars ∧ (forward = false → t.bars = s.bars) := by
  rw [State.boundaryPart_faultBars, vfaults] at tfaults
  rcases v.boundaryPart_bars s forward level with e | ⟨hf, e⟩ <;> rw [e, vbars] at tbars
  · exact ⟨barsButTrims_of_bars (Or.inl tbars), tfaults, fun _ => tbars⟩
  · exact ⟨barsButTrims_of_bars (Or.inr tbars), tfaults, fun h => absurd (hf.symm.trans h) (by decide)⟩

/-- An increment in OFFLINE or ARMED. -/
theorem State.takeIncrement_idle {s : State} {forward level : Bool} (hs : s.samples)
    (h : s.node.state = .offline ∨ s.node.state = .armed) :
    let t := s.takeIncrement forward level
    (barsButTrims s t ∧ t.faults.bars = s.faults.bars ∧ (forward = false → t.bars = s.bars))
      ∧ (s.node.state = .offline
          ∨ (s.node.state = .armed ∧ (forward = false ∨ s.queue.pending = [] ∨ ¬ s.crossesBoundary forward level)) →
          t.queue = s.queue ∧ t.node = s.node ∧ t.bars = s.bars) := by
  intro t
  have e : t = ((s.begun forward level).slipPart s forward level).boundaryPart s forward level :=
    State.takeIncrement_standing (by tauto) forward level
  have vnode : ((s.begun forward level).slipPart s forward level).node = s.node :=
    State.slipPart_idle (u := s.begun forward level) h s forward level
  have vbars : ((s.begun forward level).slipPart s forward level).bars = s.bars := State.slipPart_bars _ _ _ _
  have vqueue : ((s.begun forward level).slipPart s forward level).queue = s.queue := State.slipPart_queue _ _ _ _
  refine ⟨boundaryPart_leaves_bars vbars (State.slipPart_faultBars _ _ _ _) (by rw [e]) (by rw [e]), fun hi => ?_⟩
  rw [← hs.crosses_iff, Bool.not_eq_true, ← vnode, ← vqueue] at hi
  rw [e, State.boundaryPart_idle hi]
  exact ⟨vqueue, vnode, vbars⟩

/-- Settles O16: outside RUNNING an increment is its slip and its boundary, with CATCHUP_DISTURBED in CATCHUP. -/
theorem shaftOutsideRunning : Obligations.ShaftOutsideRunning := by
  intro s forward level hs hr
  refine ⟨_, exec_turn hs forward level, ?_⟩
  by_cases hi : s.node.state = .offline ∨ s.node.state = .armed
  · obtain ⟨⟨trims, faults, reverse⟩, idle⟩ :=
      State.takeIncrement_idle (s := s.turnAdopted forward) (forward := forward) (level := level) hs hi
    exact ⟨trims, faults, idle, reverse⟩
  · have held : s.node.state = .hold ∨ s.node.state = .catchup := by
      cases h : s.node.state <;> simp_all
    obtain ⟨v, ⟨-, -, vbars, vfaults⟩, ⟨-, -, tbars, tfaults, -, -⟩⟩ :=
      State.takeIncrement_follows (s := s.turnAdopted forward) held forward level
    obtain ⟨trims, faults, reverse⟩ := boundaryPart_leaves_bars vbars vfaults tbars tfaults
    exact ⟨trims, faults, fun h => absurd (h.imp id And.left) hi, reverse⟩

end Sys2Proof.Machine


-- ==== Boundaries and slips in RUNNING and ARMED (O10, O14, O15) ====
namespace Sys2Proof.Machine

/-! ### The forms of an increment in RUNNING -/

/-- What the crossings of an increment leave for its slip and its boundary: the queue, the node record, the bars'
parameters. -/
def Ran (s v : State) : Prop :=
  v.queue = s.queue ∧ v.faults.node = s.faults.node ∧ ∀ n : BarIx, s.bars[n].sameParameters v.bars[n]

theorem Ran.of_crossed {s v : State} {forward level : Bool} (h : Crossed (s.begun forward level) v) : Ran s v := by
  obtain ⟨e, hb⟩ := h
  refine ⟨?_, ?_, hb⟩ <;> rw [e] <;> rfl

theorem Ran.currentTag {s v : State} (h : Ran s v) : v.currentTag = s.currentTag := by
  rw [State.currentTag, h.1]
  rfl

/-- An increment in RUNNING whose slip and boundary take `v` to `w` and that ends in `t`: a guard requested no HOLD, or the
HOLD came after them, or before them (R129, R130). -/
def RunningCase (s v w t : State) : Prop :=
  (v.node = s.node ∧ t = w)
    ∨ (s.node.guardEnable = true ∧ v.node = s.node ∧ t = w.requestHold false)
    ∨ (s.node.guardEnable = true ∧ v.node = s.node.requestHold false ∧ t = w)

theorem State.takeIncrement_running_cases {s : State} (h : s.node.state = .running) (forward level : Bool) :
    ∃ v, Ran s v ∧
      RunningCase s v ((v.slipPart s forward level).boundaryPart s forward level) (s.takeIncrement forward level) := by
  obtain ⟨taken, -, ⟨-, e⟩ | ⟨hg, -, e | e⟩⟩ := State.takeIncrement_running h forward level
  all_goals
    have hu := takeCrossings_crossed (s.begun forward level) taken
    have hn : (takeCrossings (s.begun forward level) taken).1.node = s.node := by rw [hu.1]; rfl
  · exact ⟨_, Ran.of_crossed hu, Or.inl ⟨hn, e⟩⟩
  · exact ⟨_, Ran.of_crossed hu, Or.inr (Or.inl ⟨hg, hn, e⟩)⟩
  · have ran : Ran s (takeCrossings (s.begun forward level) taken).1 := Ran.of_crossed hu
    exact ⟨(takeCrossings (s.begun forward level) taken).1.requestHold false, ran,
      Or.inr (Or.inr ⟨hg, congrArg (Node.requestHold · false) hn, e⟩)⟩

theorem RunningCase.unguarded {s v w t : State} (h : RunningCase s v w t) (hg : s.node.guardEnable = false) :
    v.node = s.node ∧ t = w := by
  rcases h with h | ⟨hg', -⟩ | ⟨hg', -⟩
  · exact h
  · exact absurd (hg.symm.trans hg') (by decide)
  · exact absurd (hg.symm.trans hg') (by decide)

/-- A guard's HOLD changes the node alone. -/
theorem RunningCase.fields {s v w t : State} (h : RunningCase s v w t) :
    t.queue = w.queue ∧ t.bars = w.bars ∧ t.faults = w.faults := by
  rcases h with ⟨-, e⟩ | ⟨-, -, e⟩ | ⟨-, -, e⟩ <;> rw [e] <;> exact ⟨rfl, rfl, rfl⟩

theorem RunningCase.follows {s v w t : State} (h : RunningCase s v w t) (hs : s.node.state = .running) :
    v.node.state = .running ∨ v.node.state = .hold := by
  rcases h with ⟨e, -⟩ | ⟨-, e, -⟩ | ⟨-, e, -⟩ <;> rw [e]
  · exact Or.inl hs
  · exact Or.inl hs
  · exact Or.inr (Node.requestHold_hold (Or.inl hs) false)

/-- HOLD and DESYNC taken by the slip or the boundary give the same node, whatever a guard requested. -/
theorem RunningCase.outOfStep {s v w t : State} (h : RunningCase s v w t) (hs : s.node.state = .running)
    (hw : w.node = v.node.requestHold true) : t.node = s.node.heldOutOfStep := by
  rcases h with ⟨e, rfl⟩ | ⟨-, e, rfl⟩ | ⟨-, e, rfl⟩
  · rw [hw, e, Node.requestHold_outOfStep (Or.inl hs)]
  · rw [State.requestHold_node, hw, e, Node.requestHold_outOfStep (Or.inl hs), Node.requestHold_again rfl]
  · rw [hw, e, Node.requestHold_twice (Or.inl hs)]

/-! ### The node record once it is occupied (R165) -/

/-- A node record that holds a capture, whether or not it was repeated. -/
def Records (c : FaultCapture NodeCode) (t : State) : Prop :=
  ∃ c', t.faults.node = some c' ∧ c'.code = c.code ∧ c'.tag = c.tag ∧ c'.angle = c.angle

theorem Records.reportNode {c : FaultCapture NodeCode} {t : State} (h : Records c t) (code : NodeCode) (tag : Option Word)
    (angle : Nat) : Records c (t.reportNode code tag angle) := by
  obtain ⟨c', e, hcode, htag, hangle⟩ := h
  exact ⟨{ c' with repeated := true }, by rw [State.reportNode_faults_node, e, reportTo_some], hcode, htag, hangle⟩

theorem Records.makeDueCheck {c : FaultCapture NodeCode} {t : State} (h : Records c t) (m : Nat) (r : CourseRecord) :
    Records c (t.makeDueCheck m r) := by
  unfold State.makeDueCheck
  dsimp only
  split
  · exact h
  · refine Records.reportNode ?_ .unfit (some r.tag) 0
    exact h

theorem Records.stepQueue {c : FaultCapture NodeCode} {t : State} (h : Records c t) (m : Nat) (head : CourseRecord)
    (rest : List CourseRecord) : Records c (t.stepQueue m head rest) := by
  unfold State.stepQueue
  dsimp only
  split
  · refine Records.makeDueCheck ?_ m head
    exact h
  · exact h

theorem Records.runDry {c : FaultCapture NodeCode} {t : State} (h : Records c t) : Records c t.runDry :=
  Records.reportNode (t := { t with bars := activateTrims t.bars }) h _ _ _

theorem Records.boundary {c : FaultCapture NodeCode} {t : State} (h : Records c t) (forward : Bool) (m : Nat) :
    Records c (t.boundary forward m) := by
  cases forward
  · show Records c t.reverseBoundary
    unfold State.reverseBoundary
    split
    · exact h
    · exact h
    all_goals
      split
      · exact h.reportNode _ _ _
      · exact h
  · show Records c (t.forwardBoundary m)
    unfold State.forwardBoundary
    split
    · exact h
    · split
      · exact h
      · refine Records.stepQueue ?_ _ _ _
        exact h
    all_goals
      split
      · exact h.runDry
      · exact h.stepQueue _ _ _

theorem Records.boundaryPart {c : FaultCapture NodeCode} {t : State} (h : Records c t) (s : State) (forward level : Bool) :
    Records c (t.boundaryPart s forward level) := by
  unfold State.boundaryPart
  dsimp only
  split
  · exact Records.boundary (t := { t with tracker := s.tracker.turned forward level }) h _ _
  · exact h

/-! ### INDEX_SLIP (R9, R138) -/

/-- HOLD with DESYNC. -/
def OutOfStep (t : State) : Prop := t.node.state = .hold ∧ t.node.desync = true

theorem OutOfStep.requestHold {t : State} (h : OutOfStep t) (d : Bool) : OutOfStep (t.requestHold d) := by
  obtain ⟨hst, hd⟩ := h
  have hf : t.node.state.follows := Or.inr (Or.inl hst)
  exact ⟨Node.requestHold_hold hf d, by rw [State.requestHold_node, Node.requestHold_desync hf, hd]; rfl⟩

theorem OutOfStep.disturbed {t : State} (h : OutOfStep t) (angle : Nat) : OutOfStep (t.disturbed angle) :=
  OutOfStep.requestHold (t := t.reportNode .catchupDisturbed t.currentTag angle) h false

theorem OutOfStep.of_requestHold {u t : State} (h : u.node.state.follows) (e : t.node = u.node.requestHold true) :
    OutOfStep t := by
  rw [OutOfStep, e]
  exact ⟨Node.requestHold_hold h true, desync_requestHold h⟩

theorem OutOfStep.boundaryPart {t : State} (h : OutOfStep t) (s : State) (forward level : Bool) :
    OutOfStep (t.boundaryPart s forward level) := by
  rcases State.boundaryPart_node (Or.inl h.1) s forward level with e | e
  · rw [OutOfStep, e]
    exact h
  · exact OutOfStep.of_requestHold (Or.inr (Or.inl h.1)) e

/-- A slip in RUNNING, HOLD or CATCHUP leaves the node in HOLD with DESYNC, whatever its boundary and a CATCHUP_DISTURBED do. -/
theorem State.takeIncrement_slip_node {s : State} {forward level : Bool} (hs : s.tracker.slips forward level = true)
    (h : s.node.state = .running ∨ s.node.state = .hold ∨ s.node.state = .catchup) :
    OutOfStep (s.takeIncrement forward level) := by
  have slipped : ∀ u : State, u.node.state.follows → OutOfStep (u.slipPart s forward level) := fun u hu => by
    rw [State.slipPart_slips hs]
    exact OutOfStep.of_requestHold hu rfl
  have ended := fun (u : State) (hu : u.node.state.follows) => (slipped u hu).boundaryPart s forward level
  rcases h with h | h | h
  · obtain ⟨v, -, hv⟩ := State.takeIncrement_running_cases h forward level
    have follows : v.node.state.follows := (hv.follows h).imp id Or.inl
    rcases hv with ⟨-, e⟩ | ⟨-, -, e⟩ | ⟨-, -, e⟩ <;> rw [e]
    · exact ended v follows
    · exact (ended v follows).requestHold false
    · exact ended v follows
  · rw [State.takeIncrement_standing (Or.inr (Or.inr h))]
    exact ended _ (Or.inr (Or.inl h))
  · have begun : (s.begun forward level).node.state.follows := Or.inr (Or.inr h)
    rcases State.takeIncrement_catchup h forward level with e | e | e <;> rw [e]
    · exact ended _ (Or.inr (Or.inl (Node.requestHold_hold (n := (s.begun forward level).node) begun false)))
    · exact ((slipped _ begun).disturbed _).boundaryPart s forward level
    · exact (ended _ begun).requestHold false

/-- Outside CATCHUP a slip's report is the first to reach the node record. -/
theorem State.takeIncrement_slip_record {s : State} {forward level : Bool} (hs : s.tracker.slips forward level = true)
    (h : s.node.state ≠ .catchup) (hn : s.faults.node = none) :
    Records ⟨.indexSlip, s.currentTag, s.turned forward, false⟩ (s.takeIncrement forward level) := by
  have slipped : ∀ v : State, Ran s v →
      Records ⟨.indexSlip, s.currentTag, s.turned forward, false⟩ ((v.slipPart s forward level).boundaryPart s forward level) := by
    intro v hv
    refine Records.boundaryPart ?_ s forward level
    rw [State.slipPart_slips hs]
    refine ⟨_, ?_, rfl, rfl, rfl⟩
    show reportTo v.faults.node .indexSlip v.currentTag (s.turned forward) = _
    rw [hv.2.1, hn, hv.currentTag, reportTo_none]
  by_cases hr : s.node.state = .running
  · obtain ⟨v, hv, hcase⟩ := State.takeIncrement_running_cases hr forward level
    rw [Records, hcase.fields.2.2]
    exact slipped v hv
  · have standing : s.node.state = .offline ∨ s.node.state = .armed ∨ s.node.state = .hold := by
      cases hst : s.node.state <;> simp_all
    rw [State.takeIncrement_standing standing]
    exact slipped _ (Ran.of_crossed (Crossed.refl _))

/-- Settles O10: the slip's report, and what it requests, in each node state. -/
theorem indexSlipReported : Obligations.IndexSlipReported := by
  intro s forward hs hi hv hforward hreverse
  have slips : (s.turnAdopted forward).tracker.slips forward true = true := by
    rw [Tracker.slips_iff]
    refine ⟨hv, ⟨rfl, hi⟩, ?_⟩
    cases forward
    · exact hreverse rfl
    · exact hforward rfl
  refine ⟨_, exec_turn hs forward true, fun hn hc => ?_, fun h => ?_, fun h => ?_⟩
  · exact State.takeIncrement_slip_record (s := s.turnAdopted forward) slips hc hn
  · exact State.takeIncrement_slip_node (s := s.turnAdopted forward) slips h
  · obtain ⟨hq, hnode, -⟩ := (State.takeIncrement_idle (s := s.turnAdopted forward) (forward := forward) (level := true) hs
      (Or.inl h)).2 (Or.inl h)
    exact ⟨hnode, hq⟩

end Sys2Proof.Machine


namespace Sys2Proof.Machine

/-! ### The due check at a boundary (R87, R106, R107) -/

/-- The node once a boundary has started or kept the run (R87, R138). -/
def Node.ran (n : Node) : Node :=
  { n with state := .running, stopReq := if n.state = .armed then false else n.stopReq }

/-- The node once a failing due check has taken HOLD (R107, R135). -/
def Node.unfit (n : Node) : Node := { n with state := .hold, stopReq := true, catchup := noTargets }

/-- The queue stepped with the due check made on the new current record; the node runs on, or UNFIT is reported and HOLD
taken. -/
def DueChecked (s t : State) (head : CourseRecord) (rest : List CourseRecord) (tMeas : Nat)
    (noted : Option (FaultCapture NodeCode)) : Prop :=
  t.queue = { s.queue.stepped head rest with
      dueCheck := some ⟨head.tag, tMeas, head.tMin, s.node.margin, dueCheckPasses tMeas head.tMin s.node.margin⟩ }
    ∧ (dueCheckPasses tMeas head.tMin s.node.margin = true → t.node = s.node.ran ∧ t.faults.node = noted)
    ∧ (dueCheckPasses tMeas head.tMin s.node.margin = false →
        t.node = s.node.unfit ∧ t.faults.node = reportTo noted .unfit (some head.tag) 0)

theorem Node.ran_running {n : Node} (h : n.state = .running) : n.ran = n := by
  have : n.state ≠ .armed := by simp [h]
  rw [Node.ran, if_neg this, ← h]

theorem Node.ran_armed {n : Node} (h : n.state = .armed) : n.ran = n.enter .running := by
  rw [Node.ran, if_pos h]
  rfl

theorem Node.ran_requestHold (n : Node) : n.ran.requestHold false = n.unfit := by
  rw [Node.requestHold_takes (n := n.ran) false (Or.inl rfl), Bool.or_false]
  rfl

/-- A forward boundary in RUNNING, or in ARMED, with a record pending. -/
theorem forwardBoundary_dueChecked {s v : State} {head : CourseRecord} {rest : List CourseRecord}
    (hst : s.node.state = .running ∨ s.node.state = .armed) (hp : s.queue.pending = head :: rest) (hq : v.queue = s.queue)
    (hn : v.node = s.node) (m : Nat) :
    DueChecked s (v.forwardBoundary m) head rest m v.faults.node
      ∧ (v.forwardBoundary m).bars = activateTrims v.bars := by
  have started : v.forwardBoundary m = ({ v with node := s.node.ran }.queueStepped head rest).makeDueCheck m head := by
    rcases hst with h | h
    · rw [State.forwardBoundary_steps (Or.inl (by rw [hn, h])) (by rw [hq, hp]),
        State.stepQueue_running (by rw [hn, h]), Node.ran_running h, ← hn]
    · rw [State.forwardBoundary_armed (by rw [hn, h]) (by rw [hq, hp]), State.stepQueue_running rfl, Node.ran_armed h, hn]
  rw [started]
  refine ⟨⟨?_, fun hpass => ?_, fun hfail => ?_⟩, State.makeDueCheck_bars _ _ _⟩
  · rw [State.makeDueCheck_queue, ← hq]
    rfl
  · obtain ⟨node, faults⟩ := State.makeDueCheck_pass (s := { v with node := s.node.ran }.queueStepped head rest) hpass
    rw [node, faults]
    exact ⟨rfl, rfl⟩
  · obtain ⟨node, faults⟩ := State.makeDueCheck_fail (s := { v with node := s.node.ran }.queueStepped head rest) hfail
    rw [node, faults]
    exact ⟨s.node.ran_requestHold, rfl⟩

/-! ### What the due check reads (R16, R17) -/

theorem dueCheckReads_cases (seed a b : Nat) : dueCheckReads seed a b = a ∨ dueCheckReads seed a b = b := by
  unfold dueCheckReads
  split
  · exact Or.inl rfl
  · split
    · exact Or.inr rfl
    · exact Or.inl rfl

/-- Without an index the check reads T_meas as it stands. -/
theorem State.boundaryReads_ordinary {s : State} {level : Bool} (h : s.tracker.rises level = false) :
    s.boundaryReads true level = s.tracker.tMeas := by
  rw [State.boundaryReads, Tracker.turned_ordinary true h]
  exact if_pos rfl

/-- At a forward index the check reads T_meas as before or as after the capture (entry 6). -/
theorem State.boundaryReads_index {s : State} {level : Bool} (hr : s.tracker.rises level = true)
    (hv : s.tracker.angleValid = true) :
    s.boundaryReads true level = s.tracker.tMeas
      ∨ s.boundaryReads true level = (if s.tracker.spoiled then 16777215 else s.tracker.period) := by
  have captured : (s.tracker.turned true level).tMeas = if s.tracker.spoiled then 16777215 else s.tracker.period := by
    rw [Tracker.turned_forward hr hv]
    show Tracker.captured _ = _
    simp [Tracker.captured, Tracker.corrected, Tracker.advance, saturated]
  rw [State.boundaryReads, captured]
  exact dueCheckReads_cases _ _ _

/-! ### The wrap, in every state but CATCHUP -/

/-- An increment that wraps the counter and crosses the boundary, slip excluded: the boundary alone. -/
theorem State.takeIncrement_wrap {s : State} (hc : s.node.state ≠ .catchup) {forward level : Bool}
    (ha : s.tracker.angle = if forward then 1439 else 0) :
    s.takeIncrement forward level = (s.begun forward level).boundaryPart s forward level := by
  have slips : s.tracker.slips forward level = false := by
    refine Tracker.slips_within fun _ ho => ?_
    rw [State.turned_eq, ha] at ho
    cases forward
    · exact absurd ho.2 (by decide)
    · exact absurd ho.1 (by decide)
  rw [State.takeIncrement_uncrossed hc (incrementCrossings_wrap ha level), State.slipPart_none slips]

theorem crossesBoundary_wrap {s : State} {forward level : Bool} (hv : s.tracker.angleValid = true)
    (ha : s.tracker.angle = if forward then 1439 else 0)
    (h : forward = true → s.indexRises level ∨ s.tracker.sinceIndex < 1448) : s.crossesBoundary forward level := by
  cases forward
  · exact ⟨hv, Or.inl ha⟩
  · exact ⟨hv, Or.inl ⟨ha, h rfl⟩⟩

/-- An index that finds the counter at 1436..1439 is no slip and brings the boundary (R7). -/
theorem late_forward {s : State} {level : Bool} (hi : s.indexRises level) (h1 : 1435 ≤ s.tracker.angle)
    (h2 : s.tracker.angle ≤ 1439) :
    s.tracker.slips true level = false ∧ (s.tracker.angleValid = true → s.crossesBoundary true level) := by
  have turned : s.turned true = if s.tracker.angle = 1439 then 0 else s.tracker.angle + 1 := rfl
  refine ⟨Tracker.slips_within fun _ ho => ?_, fun hv => ⟨hv, ?_⟩⟩
  · have ho : 5 ≤ s.turned true ∧ s.turned true ≤ 1435 := ho
    rw [turned] at ho
    split at ho <;> omega
  · by_cases ha : s.tracker.angle = 1439
    · exact Or.inl ⟨ha, Or.inl hi⟩
    · refine Or.inr ⟨hi, ?_⟩
      rw [turned, if_neg ha]
      omega

/-- A reverse index that finds the counter at 0..3 is no slip and brings the boundary (R8). -/
theorem late_reverse {s : State} {level : Bool} (hi : s.indexRises level) (h1 : 1 ≤ s.tracker.angle)
    (h2 : s.tracker.angle ≤ 4) :
    s.tracker.slips false level = false ∧ (s.tracker.angleValid = true → s.crossesBoundary false level) := by
  have turned : s.turned false = s.tracker.angle - 1 := by
    show (if s.tracker.angle = 0 then 1439 else s.tracker.angle - 1) = _
    rw [if_neg (by omega)]
  refine ⟨Tracker.slips_within fun _ ho => ?_, fun hv => ⟨hv, Or.inr ⟨hi, by rw [turned]; omega⟩⟩⟩
  have ho : 4 ≤ s.turned false ∧ s.turned false ≤ 1434 := ho
  omega

/-- An index that finds the counter at 720..1435 is a slip that brings the boundary (R9). -/
theorem slip_with_boundary {s : State} {level : Bool} (hv : s.tracker.angleValid = true) (hi : s.indexRises level)
    (h1 : 719 ≤ s.tracker.angle) (h2 : s.tracker.angle ≤ 1434) :
    s.tracker.slips true level = true ∧ s.crossesBoundary true level := by
  have turned : s.turned true = s.tracker.angle + 1 := by
    show (if s.tracker.angle = 1439 then 0 else s.tracker.angle + 1) = _
    rw [if_neg (by omega)]
  refine ⟨(Tracker.slips_iff s true level).mpr ⟨hv, hi, ?_⟩, hv, Or.inr ⟨hi, by rw [turned]; omega⟩⟩
  show 5 ≤ s.turned true ∧ s.turned true ≤ 1435
  omega

/-! ### A run that runs out, and retraces (R89 to R93) -/

/-- In RUNNING or HOLD a boundary with nothing to take keeps the queue, requests HOLD with DESYNC, and reports. -/
theorem boundaryPart_dry {s v : State} {level : Bool} (hx : s.tracker.crosses true level = true)
    (hv : v.node.state.follows) (hp : v.queue.pending = []) :
    let w := v.boundaryPart s true level
    w.queue = v.queue ∧ w.node = v.node.requestHold true ∧ w.bars = activateTrims v.bars
      ∧ w.faults.node = reportTo v.faults.node (if v.node.state = .running then .starved else .holdCrossing) v.currentTag 0 := by
  rw [State.boundaryPart_forward hx,
    State.forwardBoundary_dry (s := { v with tracker := s.tracker.turned true level }) hv hp]
  exact ⟨State.runDry_queue _, rfl, rfl, rfl⟩

theorem boundaryPart_exhausted {s v : State} {level : Bool} (hx : s.tracker.crosses false level = true)
    (hv : v.node.state.follows) (hh : v.queue.history = []) :
    let w := v.boundaryPart s false level
    w.queue = v.queue ∧ w.node = v.node.requestHold true ∧ w.bars = v.bars
      ∧ w.faults.node = reportTo v.faults.node .retraceExhausted v.currentTag 1439 := by
  rw [State.boundaryPart_reverse hx,
    State.reverseBoundary_exhausted (s := { v with tracker := s.tracker.turned false level }) hv hh]
  exact ⟨rfl, rfl, rfl, rfl⟩

theorem boundaryPart_retraces {s v : State} {level : Bool} {older : List CourseRecord} {newest : CourseRecord}
    (hx : s.tracker.crosses false level = true) (hv : v.node.state.follows) (hh : v.queue.history = older ++ [newest]) :
    let w := v.boundaryPart s false level
    w.queue = v.queue.retraced newest ∧ w.node = v.node ∧ w.bars = v.bars ∧ w.faults = v.faults := by
  rw [State.boundaryPart_reverse hx,
    State.reverseBoundary_retraces (s := { v with tracker := s.tracker.turned false level }) hv hh]
  exact ⟨rfl, rfl, rfl, rfl⟩

/-- The queue after a retrace, by what the pending list holds (R90, R91). -/
theorem Queue.retraced_cases {q q' : Queue} {older : List CourseRecord} {newest cur : CourseRecord}
    (hh : q.history = older ++ [newest]) (hc : q.current = some cur) (e : q' = q.retraced newest) :
    (q.pending.length < 16 →
        q' = { q with history := older, current := some newest, pending := cur :: q.pending })
      ∧ (∀ keep tail, q.pending = keep ++ [tail] → 16 ≤ q.pending.length →
        q' = { q with history := older, current := some newest, pending := cur :: keep, expected := some tail.tag }) := by
  rw [e]
  exact ⟨Queue.retraced_room hh hc, fun _ _ hk hp => Queue.retraced_full hh hc hk hp⟩

/-- An index in RUNNING that finds the counter behind, inside the tolerance (R7, R8): the crossings still owed, then the
boundary, and a HOLD that a guard requested. -/
theorem State.takeIncrement_late {s : State} (hr : s.node.state = .running) {forward level : Bool}
    (slips : s.tracker.slips forward level = false) :
    ∃ v, Ran s v ∧ v.node.state.follows
      ∧ RunningCase s v (v.boundaryPart s forward level) (s.takeIncrement forward level) := by
  obtain ⟨v, hv, hcase⟩ := State.takeIncrement_running_cases hr forward level
  rw [State.slipPart_none slips] at hcase
  exact ⟨v, hv, (hcase.follows hr).imp id Or.inl, hcase⟩

/-- The active trims once a boundary has made them active, after crossings that leave the trims. -/
theorem Ran.trims {s v t : State} (h : Ran s v) (ht : t.bars = activateTrims v.bars) (n : BarIx) :
    t.bars[n].activeTrim = s.bars[n].pendingTrim := by
  obtain ⟨-, -, -, -, pending, -⟩ := h.2.2 n
  rw [ht, Fin.getElem_fin, activateTrims_get]
  exact pending

/-- Settles O15: the boundary at the wrap, which no crossing meets, and at a late index, after the crossings owed. -/
theorem runningRunsOut : Obligations.RunningRunsOut := by
  intro s level hs hv hr
  have hc : s.node.state ≠ .catchup := by simp [hr]
  have follows : s.node.state.follows := Or.inl hr
  refine ⟨fun ha hi hp => ?_, fun ha hh => ?_, fun older newest cur ha hh hcur => ?_, fun hi h1 h2 hp => ?_,
    fun hi h1 h2 hh => ?_, fun older newest cur hi h1 h2 hh hcur => ?_⟩
  · have crosses := (hs.crosses_iff true level).mpr (crossesBoundary_wrap hv ha fun _ => hi)
    obtain ⟨queue, node, bars, record⟩ :=
      boundaryPart_dry (s := s.turnAdopted true) (v := (s.turnAdopted true).begun true level) crosses follows hp
    refine ⟨_, exec_turn hs true level, ?_⟩
    rw [State.takeIncrement_wrap (s := s.turnAdopted true) (forward := true) hc ha]
    refine ⟨⟨queue, node.trans (Node.requestHold_outOfStep (Or.inl hr)), ?_⟩, trimsActive_of_bars bars,
      State.boundaryPart_faultBars _ _ _ _⟩
    rw [record, State.nodeRecord_eq]
    exact congrArg (reportTo s.faults.node · s.currentTag 0) (if_pos hr)
  · have crosses := (hs.crosses_iff false level).mpr (crossesBoundary_wrap hv ha nofun)
    obtain ⟨queue, node, bars, record⟩ :=
      boundaryPart_exhausted (s := s.turnAdopted false) (v := (s.turnAdopted false).begun false level) crosses follows hh
    refine ⟨_, exec_turn hs false level, ?_⟩
    rw [State.takeIncrement_wrap (s := s.turnAdopted false) (forward := false) hc ha]
    refine ⟨⟨queue, node.trans (Node.requestHold_outOfStep (Or.inl hr)), ?_⟩, bars, State.boundaryPart_faultBars _ _ _ _⟩
    rw [record, State.nodeRecord_eq]
    rfl
  · have crosses := (hs.crosses_iff false level).mpr (crossesBoundary_wrap hv ha nofun)
    obtain ⟨queue, node, bars, faults⟩ :=
      boundaryPart_retraces (s := s.turnAdopted false) (v := (s.turnAdopted false).begun false level) crosses follows hh
    refine ⟨_, exec_turn hs false level, ?_⟩
    rw [State.takeIncrement_wrap (s := s.turnAdopted false) (forward := false) hc ha]
    exact ⟨bars, node, faults, Queue.retraced_cases hh hcur queue⟩
  · obtain ⟨slips, crossed⟩ := late_forward hi h1 (by omega)
    have crosses := (hs.crosses_iff true level).mpr (crossed hv)
    obtain ⟨v, ran, vfollows, hcase⟩ := State.takeIncrement_late (s := s.turnAdopted true) hr slips
    obtain ⟨queue, node, bars, record⟩ :=
      boundaryPart_dry (s := s.turnAdopted true) crosses vfollows (by rw [ran.1]; exact hp)
    obtain ⟨tqueue, tbars, tfaults⟩ := hcase.fields
    have held := hcase.outOfStep hr node
    refine ⟨_, exec_turn hs true level, (tqueue.trans queue).trans ran.1, by rw [held]; rfl, by rw [held]; rfl,
      ran.trims (tbars.trans bars), fun hg => ⟨(tqueue.trans queue).trans ran.1, held, ?_⟩⟩
    rw [tfaults, record, ran.2.1, ran.currentTag, (hcase.unguarded hg).1, State.nodeRecord_eq]
    exact congrArg (reportTo s.faults.node · s.currentTag 0) (if_pos hr)
  · obtain ⟨slips, crossed⟩ := late_reverse hi h1 h2
    have crosses := (hs.crosses_iff false level).mpr (crossed hv)
    obtain ⟨v, ran, vfollows, hcase⟩ := State.takeIncrement_late (s := s.turnAdopted false) hr slips
    obtain ⟨queue, node, bars, record⟩ :=
      boundaryPart_exhausted (s := s.turnAdopted false) crosses vfollows (by rw [ran.1]; exact hh)
    obtain ⟨tqueue, tbars, tfaults⟩ := hcase.fields
    refine ⟨_, exec_turn hs false level, (tqueue.trans queue).trans ran.1, hcase.outOfStep hr node, ?_⟩
    rw [tfaults, record, ran.2.1, ran.currentTag, State.nodeRecord_eq]
    rfl
  · obtain ⟨slips, crossed⟩ := late_reverse hi h1 h2
    have crosses := (hs.crosses_iff false level).mpr (crossed hv)
    obtain ⟨v, ran, vfollows, hcase⟩ := State.takeIncrement_late (s := s.turnAdopted false) hr slips
    obtain ⟨queue, node, bars, faults⟩ :=
      boundaryPart_retraces (s := s.turnAdopted false) (newest := newest) crosses vfollows (by rw [ran.1]; exact hh)
    obtain ⟨tqueue, tbars, tfaults⟩ := hcase.fields
    refine ⟨_, exec_turn hs false level,
      Queue.retraced_cases hh hcur (by rw [tqueue, queue, ran.1]; rfl), fun hg => ?_⟩
    obtain ⟨vnode, e⟩ := hcase.unguarded hg
    rw [tfaults, faults, ran.2.1, e, node, vnode]
    exact ⟨rfl, rfl⟩

end Sys2Proof.Machine


namespace Sys2Proof.Machine

/-! ### The due check spelled out (R106, R107) -/

theorem dueCheckPasses_eq (tMeas tMin margin : Nat) :
    dueCheckPasses tMeas tMin margin = decide (tMeas = 16777215 ∨ tMin * (256 + margin) ≤ tMeas * 256) := by
  rw [Bool.eq_iff_iff, dueCheckPasses_iff, decide_eq_true_iff]

theorem DueChecked.spelled {s t : State} {head : CourseRecord} {rest : List CourseRecord} {tMeas : Nat}
    {noted : Option (FaultCapture NodeCode)} (h : DueChecked s t head rest tMeas noted) :
    t.queue = { s.queue.stepped head rest with
        dueCheck := some ⟨head.tag, tMeas, head.tMin, s.node.margin,
          decide (tMeas = 16777215 ∨ head.tMin * (256 + s.node.margin) ≤ tMeas * 256)⟩ }
      ∧ (tMeas = 16777215 ∨ head.tMin * (256 + s.node.margin) ≤ tMeas * 256 →
          t.node = s.node.ran ∧ t.faults.node = noted)
      ∧ (¬ (tMeas = 16777215 ∨ head.tMin * (256 + s.node.margin) ≤ tMeas * 256) →
          t.node = s.node.unfit
          ∧ t.faults.node = { s with faults := { s.faults with node := noted } }.nodeRecord .unfit (some head.tag) 0) := by
  obtain ⟨queue, pass, fail⟩ := h
  refine ⟨by rw [queue, dueCheckPasses_eq], fun hp => pass ((dueCheckPasses_iff _ _ _).mpr hp), fun hf => ?_⟩
  rw [State.nodeRecord_eq]
  exact fail (by rw [← Bool.not_eq_true, dueCheckPasses_iff]; exact hf)

/-! ### A boundary that steps the queue, in RUNNING and ARMED (R87, R138) -/

theorem boundaryPart_dueChecked {s v : State} {level : Bool} {head : CourseRecord} {rest : List CourseRecord}
    (hx : s.tracker.crosses true level = true) (hst : s.node.state = .running ∨ s.node.state = .armed)
    (hp : s.queue.pending = head :: rest) (hq : v.queue = s.queue) (hn : v.node = s.node) :
    DueChecked s (v.boundaryPart s true level) head rest (s.boundaryReads true level) v.faults.node
      ∧ (v.boundaryPart s true level).bars = activateTrims v.bars := by
  rw [State.boundaryPart_forward hx]
  exact forwardBoundary_dueChecked (v := { v with tracker := s.tracker.turned true level }) hst hp hq hn _

/-- In RUNNING, HOLD and CATCHUP a boundary with a record pending steps the queue, whatever its due check does. -/
theorem boundaryPart_steps {s v : State} {level : Bool} {head : CourseRecord} {rest : List CourseRecord}
    (hx : s.tracker.crosses true level = true) (hv : v.node.state.follows) (hp : v.queue.pending = head :: rest) :
    (∃ d, (v.boundaryPart s true level).queue = { v.queue.stepped head rest with dueCheck := d })
      ∧ (v.boundaryPart s true level).bars = activateTrims v.bars := by
  rw [State.boundaryPart_forward hx,
    State.forwardBoundary_steps (s := { v with tracker := s.tracker.turned true level }) hv hp]
  exact ⟨State.stepQueue_queue _ _ _ _, State.stepQueue_bars _ _ _ _⟩

/-- In HOLD a boundary with a record pending makes no due check and leaves the node and its record. -/
theorem boundaryPart_steps_held {s v : State} {level : Bool} {head : CourseRecord} {rest : List CourseRecord}
    (hx : s.tracker.crosses true level = true) (hv : v.node.state = .hold) (hp : v.queue.pending = head :: rest) :
    let w := v.boundaryPart s true level
    w.queue = v.queue.stepped head rest ∧ w.node = v.node ∧ w.faults = v.faults ∧ w.bars = activateTrims v.bars := by
  have hr : v.node.state ≠ .running := by simp [hv]
  rw [State.boundaryPart_forward hx,
    State.forwardBoundary_steps (s := { v with tracker := s.tracker.turned true level }) (Or.inr (Or.inl hv)) hp,
    State.stepQueue_held (s := { v with tracker := s.tracker.turned true level }) hr]
  exact ⟨rfl, rfl, rfl, rfl⟩

/-- The increments that reach their boundary with the queue, the node and its record untouched: those in ARMED, those that
wrap the counter, and with the guard enable clear all in RUNNING. -/
theorem State.takeIncrement_dueChecked {s : State} {level : Bool} {head : CourseRecord} {rest : List CourseRecord}
    (hst : s.node.state = .running ∨ s.node.state = .armed) (hp : s.queue.pending = head :: rest)
    (slips : s.tracker.slips true level = false) (hx : s.tracker.crosses true level = true)
    (h : s.node.state = .armed ∨ s.tracker.angle = 1439 ∨ s.node.guardEnable = false) :
    DueChecked s (s.takeIncrement true level) head rest (s.boundaryReads true level) s.faults.node := by
  by_cases hu : s.node.state = .armed ∨ s.tracker.angle = 1439
  · have e : s.takeIncrement true level = (s.begun true level).boundaryPart s true level := by
      rcases hu with ha | ha
      · rw [State.takeIncrement_standing (Or.inr (Or.inl ha)), State.slipPart_none slips]
      · exact State.takeIncrement_wrap (by rcases hst with h | h <;> simp [h]) (forward := true) ha
    rw [e]
    exact (boundaryPart_dueChecked (v := s.begun true level) hx hst hp rfl rfl).1
  · have hr : s.node.state = .running := by tauto
    have hg : s.node.guardEnable = false := by tauto
    obtain ⟨v, ran, -, hcase⟩ := State.takeIncrement_late hr slips
    obtain ⟨vnode, e⟩ := hcase.unguarded hg
    rw [e, ← ran.2.1]
    exact (boundaryPart_dueChecked hx hst hp ran.1 vnode).1

/-- In ARMED, and at the wrap, no crossing comes before the boundary: the bars take their trims alone. -/
theorem State.takeIncrement_trims {s : State} {level : Bool} {head : CourseRecord} {rest : List CourseRecord}
    (hst : s.node.state = .running ∨ s.node.state = .armed) (hp : s.queue.pending = head :: rest)
    (hx : s.tracker.crosses true level = true) (h : s.node.state = .armed ∨ s.tracker.angle = 1439) :
    trimsActive s (s.takeIncrement true level) ∧ (s.takeIncrement true level).faults.bars = s.faults.bars := by
  have e : ∃ v : State, v.queue = s.queue ∧ v.node = s.node ∧ v.bars = s.bars ∧ v.faults.bars = s.faults.bars
      ∧ s.takeIncrement true level = v.boundaryPart s true level := by
    rcases h with ha | ha
    · refine ⟨(s.begun true level).slipPart s true level, State.slipPart_queue _ _ _ _,
        State.slipPart_idle (u := s.begun true level) (Or.inr ha) s true level, State.slipPart_bars _ _ _ _,
        State.slipPart_faultBars _ _ _ _, State.takeIncrement_standing (Or.inr (Or.inl ha)) true level⟩
    · exact ⟨s.begun true level, rfl, rfl, rfl, rfl,
        State.takeIncrement_wrap (by rcases hst with h | h <;> simp [h]) (forward := true) ha⟩
  obtain ⟨v, vqueue, vnode, vbars, vfaults, e⟩ := e
  have bars := (boundaryPart_dueChecked hx hst hp vqueue vnode).2
  rw [e]
  exact ⟨trimsActive_of_bars (by rw [bars, vbars]), by rw [State.boundaryPart_faultBars, vfaults]⟩

/-- A late or exact index in RUNNING or ARMED steps the queue and makes the trims active, whatever a guard requested. -/
theorem State.takeIncrement_late_steps {s : State} {level : Bool} {head : CourseRecord} {rest : List CourseRecord}
    (hst : s.node.state = .running ∨ s.node.state = .armed) (hp : s.queue.pending = head :: rest)
    (slips : s.tracker.slips true level = false) (hx : s.tracker.crosses true level = true) :
    (∃ d, (s.takeIncrement true level).queue = { s.queue.stepped head rest with dueCheck := d })
      ∧ ∀ n : BarIx, (s.takeIncrement true level).bars[n].activeTrim = s.bars[n].pendingTrim := by
  rcases hst with hr | ha
  · obtain ⟨v, ran, vfollows, hcase⟩ := State.takeIncrement_late hr slips
    obtain ⟨⟨d, queue⟩, bars⟩ := boundaryPart_steps hx vfollows (by rw [ran.1]; exact hp)
    obtain ⟨tqueue, tbars, -⟩ := hcase.fields
    exact ⟨⟨d, by rw [tqueue, queue, ran.1]⟩, ran.trims (tbars.trans bars)⟩
  · have due := State.takeIncrement_dueChecked (Or.inr ha) hp slips hx (Or.inl ha)
    refine ⟨⟨_, due.1⟩, fun n => ?_⟩
    rw [(State.takeIncrement_trims (Or.inr ha) hp hx (Or.inl ha)).1 n]

/-! ### A slip that brings the boundary (R9, R138) -/

/-- In RUNNING the slip takes HOLD first and the queue steps there. -/
theorem State.takeIncrement_slip_steps {s : State} {level : Bool} {head : CourseRecord} {rest : List CourseRecord}
    (hr : s.node.state = .running) (hp : s.queue.pending = head :: rest)
    (slips : s.tracker.slips true level = true) (hx : s.tracker.crosses true level = true) :
    let t := s.takeIncrement true level
    t.queue = s.queue.stepped head rest ∧ t.node = s.node.heldOutOfStep
      ∧ t.faults.node = s.nodeRecord .indexSlip s.currentTag (s.turned true)
      ∧ ∀ n : BarIx, t.bars[n].activeTrim = s.bars[n].pendingTrim := by
  obtain ⟨v, ran, hcase⟩ := State.takeIncrement_running_cases hr true level
  have vfollows : v.node.state.follows := (hcase.follows hr).imp id Or.inl
  rw [State.slipPart_slips slips] at hcase
  obtain ⟨queue, node, faults, bars⟩ := boundaryPart_steps_held (s := s) (v := v.indexSlip (s.turned true)) hx
    (Node.requestHold_hold vfollows true) (by rw [State.indexSlip_queue, ran.1]; exact hp)
  obtain ⟨tqueue, tbars, tfaults⟩ := hcase.fields
  refine ⟨by rw [tqueue, queue, State.indexSlip_queue, ran.1], hcase.outOfStep hr node, ?_, ran.trims (tbars.trans bars)⟩
  rw [tfaults, faults, State.nodeRecord_eq, ← ran.2.1, ← ran.currentTag]
  rfl

/-- In ARMED the slip is reported and leaves the node, and the boundary starts the run. -/
theorem State.takeIncrement_slip_starts {s : State} {level : Bool} {head : CourseRecord} {rest : List CourseRecord}
    (ha : s.node.state = .armed) (hp : s.queue.pending = head :: rest)
    (slips : s.tracker.slips true level = true) (hx : s.tracker.crosses true level = true) :
    DueChecked s (s.takeIncrement true level) head rest (s.boundaryReads true level)
      (s.nodeRecord .indexSlip s.currentTag (s.turned true)) := by
  rw [State.takeIncrement_standing (Or.inr (Or.inl ha)), State.nodeRecord_eq]
  have due := (boundaryPart_dueChecked (v := (s.begun true level).slipPart s true level) hx (Or.inr ha) hp
    (State.slipPart_queue _ _ _ _) (State.slipPart_idle (u := s.begun true level) (Or.inr ha) s true level)).1
  have record : ((s.begun true level).slipPart s true level).faults.node
      = reportTo s.faults.node .indexSlip s.currentTag (s.turned true) := by
    rw [State.slipPart_slips slips]
    rfl
  rw [← record]
  exact due

/-- Settles O14: the boundary at the wrap, at an index inside the tolerance, and at a slip. -/
theorem boundaryMakesDueCheck : Obligations.BoundaryMakesDueCheck := by
  intro s level head rest hs hv hp hst stepped passes captured checked
  have due : s.node.state = .running ∨ s.node.state = .armed := hst.imp And.left And.left
  have spelled : ∀ {t tMeas noted}, DueChecked s t head rest tMeas noted → checked t tMeas noted := fun {t tMeas noted} h => by
    have spelled := h.spelled
    rw [Queue.stepped_eq] at spelled
    exact spelled
  refine ⟨fun ha hi hlt => ?_, fun hi h1 h2 => ?_, fun hi h1 h2 => ?_⟩
  · have within : s.tracker.slips true level = false := Tracker.slips_within fun hi' => absurd hi' hi
    have crosses := (hs.crosses_iff true level).mpr (crossesBoundary_wrap (forward := true) hv ha fun _ => Or.inr hlt)
    obtain ⟨trims, records⟩ := State.takeIncrement_trims (s := s.turnAdopted true) due hp crosses (Or.inr ha)
    have checks := State.takeIncrement_dueChecked (s := s.turnAdopted true) due hp within crosses (Or.inr (Or.inl ha))
    rw [State.boundaryReads_ordinary (s := s.turnAdopted true) (not_rises hi)] at checks
    exact ⟨_, exec_turn hs true level, trims, records, spelled checks⟩
  · obtain ⟨within, crossed⟩ := late_forward hi h1 h2
    have crosses := (hs.crosses_iff true level).mpr (crossed hv)
    obtain ⟨⟨d, queue⟩, trims⟩ := State.takeIncrement_late_steps (s := s.turnAdopted true) due hp within crosses
    refine ⟨_, exec_turn hs true level, ?_, trims, State.takeIncrement_trims (s := s.turnAdopted true) due hp crosses,
      fun h => ?_⟩
    · rw [queue, Queue.stepped_eq]
      rfl
    · have checks := State.takeIncrement_dueChecked (s := s.turnAdopted true) due hp within crosses h
      rcases State.boundaryReads_index (s := s.turnAdopted true) ((Tracker.rises_iff s level).mpr hi) hv with e | e <;>
        rw [e] at checks
      · exact Or.inl (spelled checks)
      · exact Or.inr (spelled checks)
  · obtain ⟨slips, crossed⟩ := slip_with_boundary hv hi h1 h2
    have crosses := (hs.crosses_iff true level).mpr crossed
    refine ⟨_, exec_turn hs true level, ?_⟩
    rcases hst with ⟨hr, -⟩ | ⟨ha, hnone⟩
    · obtain ⟨queue, node, record, trims⟩ := State.takeIncrement_slip_steps (s := s.turnAdopted true) hr hp slips crosses
      refine ⟨trims, fun _ => ⟨?_, node, record⟩, fun ha => by simp [hr] at ha⟩
      rw [queue, Queue.stepped_eq]
      rfl
    · obtain ⟨trims, records⟩ := State.takeIncrement_trims (s := s.turnAdopted true) due hp crosses (Or.inl ha)
      have checks := State.takeIncrement_slip_starts (s := s.turnAdopted true) ha hp slips crosses
      have tag : (s.turnAdopted true).currentTag = none := congrArg (Option.map CourseRecord.tag) hnone
      rw [tag] at checks
      refine ⟨fun n => by rw [trims n]; rfl, fun hr => by simp [ha] at hr, fun _ => ⟨trims, records, ?_⟩⟩
      rcases State.boundaryReads_index (s := s.turnAdopted true) ((Tracker.rises_iff s level).mpr hi) hv with e | e <;>
        rw [e] at checks
      · exact Or.inl (spelled checks)
      · exact Or.inr (spelled checks)

end Sys2Proof.Machine


-- ==== A guard's HOLD with the guard enable set (O19) ====
namespace Sys2Proof.Machine

/-- A guard's crossing of a MOTION bar that is MOVING requests HOLD, whatever crossings come before it (R129). -/
theorem takeCrossings_guard_requests {s : State} {cs : List Crossing} {c : Crossing} (hc : c ∈ cs)
    (hg : s.node.guardEnable = true) (hr : s.node.state = .running)
    (hguard : crossingMeaning c.edge c.forward = .guard) (hmode : s.bars[c.bar].mode = .motion)
    (hm : s.bars[c.bar].motion.isMoving = true) : (takeCrossings s cs).2 = true := by
  induction cs generalizing s with
  | nil => cases hc
  | cons d rest ih =>
    rw [takeCrossings, Bool.or_eq_true]
    rcases List.mem_cons.mp hc with rfl | hrest
    · exact Or.inl (by simp [-Fin.getElem_fin, requestsHold, hg, hr, hguard, hmode, hm])
    · obtain ⟨e, kept⟩ := takeCrossing_crossed s d
      obtain ⟨mode, -, -, -, -, moving⟩ := kept c.bar
      have node : (takeCrossing s d).node = s.node := by rw [e]
      exact Or.inr (ih hrest (by rw [node, hg]) (by rw [node, hr]) (mode.trans hmode) (moving hm))

/-- What a boundary from RUNNING does to the node: nothing, or a hold request. -/
theorem State.boundary_requests {u : State} (h : u.node.state = .running) (forward : Bool) (m : Nat) :
    (u.boundary forward m).node = u.node ∨ ∃ d, (u.boundary forward m).node = u.node.requestHold d := by
  have hf : u.node.state.follows := Or.inl h
  cases forward
  · show u.reverseBoundary.node = _ ∨ ∃ d, u.reverseBoundary.node = _
    cases hh : u.queue.history.getLast? with
    | none =>
      rw [State.reverseBoundary_exhausted hf (List.getLast?_eq_none_iff.mp hh)]
      exact Or.inr ⟨true, rfl⟩
    | some newest =>
      obtain ⟨older, hh⟩ := List.getLast?_eq_some_iff.mp hh
      rw [State.reverseBoundary_retraces hf hh]
      exact Or.inl rfl
  · show (u.forwardBoundary m).node = _ ∨ ∃ d, (u.forwardBoundary m).node = _
    cases hp : u.queue.pending with
    | nil =>
      rw [State.forwardBoundary_dry hf hp]
      exact Or.inr ⟨true, rfl⟩
    | cons head rest =>
      rw [State.forwardBoundary_steps hf hp, State.stepQueue_running h]
      cases hpass : dueCheckPasses m head.tMin (u.queueStepped head rest).node.margin with
      | true => exact Or.inl (State.makeDueCheck_pass hpass).1
      | false => exact Or.inr ⟨false, (State.makeDueCheck_fail hpass).1⟩

/-- HOLD with the stop request asserted. -/
def Node.stopped (n : Node) : Prop := n.state = .hold ∧ n.stopReq = true

theorem Node.stopped.requestHold {n : Node} (h : n.stopped) (d : Bool) : (n.requestHold d).stopped := by
  rw [Node.requestHold_stays d h.1]
  exact h

theorem Node.stopped_of_running {n : Node} (h : n.state = .running) (d : Bool) : (n.requestHold d).stopped :=
  ⟨Node.requestHold_hold (Or.inl h) d, Node.requestHold_stopReq (Or.inl h) d⟩

/-- A guard's HOLD before the boundary stays through it. -/
theorem State.boundaryPart_stopped {u : State} (h : u.node.stopped) (s : State) (forward level : Bool) :
    (u.boundaryPart s forward level).node.stopped := by
  rcases State.boundaryPart_node (Or.inl h.1) s forward level with e | e <;> rw [e]
  · exact h
  · exact h.requestHold true

/-- A guard's HOLD after the boundary is taken, or the boundary has taken HOLD already. -/
theorem State.boundaryPart_then_stopped {u : State} (h : u.node.state = .running) (s : State) (forward level : Bool) :
    ((u.boundaryPart s forward level).requestHold false).node.stopped := by
  have parts : (u.boundaryPart s forward level).node = u.node
      ∨ ∃ d, (u.boundaryPart s forward level).node = u.node.requestHold d := by
    unfold State.boundaryPart
    dsimp only
    split
    · exact State.boundary_requests (u := { u with tracker := s.tracker.turned forward level }) h forward _
    · exact Or.inl rfl
  rw [State.requestHold_node]
  rcases parts with e | ⟨d, e⟩ <;> rw [e]
  · exact Node.stopped_of_running h false
  · exact (Node.stopped_of_running h d).requestHold false

/-- An increment in RUNNING that issues a guard's crossing of a MOVING bar, with the guard enable set: HOLD with the stop
request and some bar's record occupied; without a boundary nothing else of the node changes, nor the queue. -/
theorem State.takeIncrement_guarded {s : State} {forward level : Bool} {c : Crossing}
    (hc : c ∈ incrementCrossings s forward level) (hr : s.node.state = .running) (hg : s.node.guardEnable = true)
    (hguard : crossingMeaning c.edge c.forward = .guard) (hmode : s.bars[c.bar].mode = .motion)
    (hm : s.bars[c.bar].motion.isMoving = true) (slips : s.tracker.slips forward level = false) :
    let t := s.takeIncrement forward level
    t.node.stopped ∧ (∃ k : BarIx, t.faults.bars[k] ≠ none)
      ∧ (s.tracker.crosses forward level = false → t.node = s.node.requestHold false ∧ t.queue = s.queue) := by
  intro t
  have requests := takeCrossings_guard_requests (s := s.begun forward level) hc hg hr hguard hmode hm
  obtain ⟨taken, -, hcase⟩ := State.takeIncrement_running hr forward level
  obtain ⟨e, -⟩ := takeCrossings_crossed (s.begun forward level) taken
  rcases hcase with ⟨hq, -⟩ | ⟨-, ⟨k, hk⟩, ht⟩
  · exact absurd (hq.symm.trans requests) (by decide)
  · generalize (takeCrossings (s.begun forward level) taken).1 = u at e hk ht
    have node : u.node = s.node := by rw [e]; rfl
    have queue : u.queue = s.queue := by rw [e]; rfl
    rw [State.slipPart_none slips, State.slipPart_none slips] at ht
    have record : t.faults.bars = u.faults.bars := by
      rcases ht with h | h <;> rw [show t = _ from h]
      · exact State.boundaryPart_faultBars _ _ _ _
      · exact State.boundaryPart_faultBars _ _ _ _
    refine ⟨?_, ⟨k, by rw [record]; exact hk⟩, fun hx => ?_⟩
    · rcases ht with h | h <;> rw [show t = _ from h]
      · exact State.boundaryPart_then_stopped (by rw [node, hr]) s forward level
      · refine State.boundaryPart_stopped (Node.stopped_of_running ?_ false) s forward level
        rw [node, hr]
    · rw [State.boundaryPart_none hx, State.boundaryPart_none hx] at ht
      rcases ht with h | h <;> rw [show t = _ from h]
      · exact ⟨congrArg (Node.requestHold · false) node, queue⟩
      · exact ⟨congrArg (Node.requestHold · false) node, queue⟩

/-! ### Which crossings an increment issues -/

/-- The counter an ordinary increment crosses edges at: the new one forwards, the old one in reverse (R4). -/
def crossedAngle (s : State) (forward : Bool) : Nat := if forward then s.tracker.angle + 1 else s.tracker.angle

/-- Off the wrap an ordinary increment that withholds nothing issues the crossings at its angle (R4, R10). -/
theorem ordinaryCrossings_issued {s : State} {forward : Bool} (hv : s.tracker.angleValid = true)
    (h : s.tracker.recross = 0 ∨ s.tracker.recrossForward ≠ forward) (hw : forward = true → s.tracker.angle ≠ 1439) :
    ordinaryCrossings s s.tracker forward = crossingsAt s forward (crossedAngle s forward) := by
  have issues : s.tracker.withholds forward = false := by
    rcases h with h | h
    · simp [Tracker.withholds, h]
    · simp [Tracker.withholds, Ne.symm h]
  rw [ordinaryCrossings, if_pos ⟨hv, issues⟩]
  cases forward
  · rfl
  · simp [crossedAngle, nextAngle, hw rfl]

/-- While crossings are withheld an increment without an index issues none (R10). -/
theorem incrementCrossings_withheld {s : State} {forward level : Bool} (hi : ¬ s.indexRises level)
    (h0 : 0 < s.tracker.recross) (hf : s.tracker.recrossForward = forward) : incrementCrossings s forward level = [] := by
  rw [incrementCrossings, Tracker.correction_none forward (Or.inl (not_rises hi)), ordinaryCrossings,
    if_neg (by simp [Tracker.withholds, h0, hf])]
  rfl

theorem incrementCrossings_ordinary {s : State} {forward level : Bool} (hi : ¬ s.indexRises level) :
    incrementCrossings s forward level = ordinaryCrossings s s.tracker forward := by
  rw [incrementCrossings, Tracker.correction_none forward (Or.inl (not_rises hi))]
  exact List.append_nil _

/-- An ordinary increment that crosses an edge is no boundary. -/
theorem edge_no_boundary {s : State} {forward level : Bool} {trim : Int} {e : Edge} (hs : s.samples)
    (hi : ¬ s.indexRises level) (h : s.node.edgeAngle trim e = some (crossedAngle s forward)) :
    s.tracker.crosses forward level = false := by
  obtain ⟨h1, h2⟩ := Node.edgeAngle_range h
  rw [← Bool.not_eq_true, hs.crosses_iff]
  rintro ⟨-, hx⟩
  cases forward
  · simp [crossedAngle] at h1 h2
    simp [hi] at hx
    omega
  · simp [crossedAngle] at h1 h2
    simp [hi] at hx
    omega

/-- The angles whose crossings an index still owes (R7, R8). -/
def owedAngles (s : State) (forward : Bool) : List Nat := (correctionOf forward (nextAngle s.tracker.angle forward)).edges

theorem incrementCrossings_index {s : State} {level : Bool} (forward : Bool) (hv : s.tracker.angleValid = true)
    (hi : s.indexRises level) :
    incrementCrossings s forward level
      = ordinaryCrossings s s.tracker forward ++ (owedAngles s forward).flatMap (crossingsAt s forward) := by
  rw [incrementCrossings, Tracker.correction_some forward ((Tracker.rises_iff s level).mpr hi) hv]
  rfl

/-- An index that finds the counter behind, with edges still to cross before the boundary (R7, R8). -/
def findsBehind (s : State) (forward : Bool) : Prop :=
  if forward then 1435 ≤ s.tracker.angle ∧ s.tracker.angle ≤ 1437 else 2 ≤ s.tracker.angle ∧ s.tracker.angle ≤ 4

/-- Forwards the edges above the counter found are owed, in reverse those below. -/
theorem owedAngles_behind {s : State} {forward : Bool} (h : findsBehind s forward) :
    (owedAngles s forward).Nodup
      ∧ ∀ x, x ∈ owedAngles s forward
          ↔ if forward then s.tracker.angle + 1 < x ∧ x ≤ 1439 else 1 ≤ x ∧ x < s.tracker.angle := by
  obtain ⟨a, ha⟩ : ∃ a, s.tracker.angle = a := ⟨_, rfl⟩
  rw [owedAngles, ha]
  cases forward
  · obtain ⟨h1, h2⟩ : 2 ≤ s.tracker.angle ∧ s.tracker.angle ≤ 4 := h
    obtain rfl | rfl | rfl : a = 2 ∨ a = 3 ∨ a = 4 := by omega
    all_goals exact ⟨by decide, fun x => by simp [correctionOf, reverseCorrection, nextAngle, List.range_succ]; omega⟩
  · obtain ⟨h1, h2⟩ : 1435 ≤ s.tracker.angle ∧ s.tracker.angle ≤ 1437 := h
    obtain rfl | rfl | rfl : a = 1435 ∨ a = 1436 ∨ a = 1437 := by omega
    all_goals exact ⟨by decide, fun x => by simp [correctionOf, forwardCorrection, nextAngle, List.range_succ]; omega⟩

/-- An index that finds the counter behind is no slip. -/
theorem findsBehind.noSlip {s : State} {forward level : Bool} (h : findsBehind s forward) (hi : s.indexRises level) :
    s.tracker.slips forward level = false := by
  cases forward
  · obtain ⟨h1, h2⟩ : 2 ≤ s.tracker.angle ∧ s.tracker.angle ≤ 4 := h
    exact (late_reverse hi (by omega) h2).1
  · obtain ⟨h1, h2⟩ : 1435 ≤ s.tracker.angle ∧ s.tracker.angle ≤ 1437 := h
    exact (late_forward hi h1 (by omega)).1

/-- Settles O19: the increment issues the guard's crossing, and the guard takes HOLD. -/
theorem guardTakesHold : Obligations.GuardTakesHold := by
  intro s forward level n m hs hv hr hg hmode hmotion
  have moving : s.bars[n].motion.isMoving = true := by rw [hmotion]; rfl
  refine ⟨fun e hi issues hedge he => ?_, fun angle hi h => ?_⟩
  · have wrap : forward = true → s.tracker.angle ≠ 1439 := by
      rintro rfl hw
      have := (Node.edgeAngle_range he).2
      simp [hw] at this
    have issued : (⟨n, e, crossedAngle s forward, forward⟩ : Crossing)
        ∈ incrementCrossings (s.turnAdopted forward) forward level := by
      rw [incrementCrossings_ordinary (s := s.turnAdopted forward) hi,
        ordinaryCrossings_issued (s := s.turnAdopted forward) hv issues wrap]
      exact mem_crossingsAt.mpr ⟨rfl, rfl, he⟩
    have guards : crossingMeaning e forward = .guard := by
      cases forward
      · rcases hedge with rfl | rfl <;> rfl
      · rcases hedge with rfl | rfl <;> rfl
    obtain ⟨⟨hold, stop⟩, record, rest⟩ := State.takeIncrement_guarded (s := s.turnAdopted forward) issued hr hg guards
      hmode moving (Tracker.slips_within fun hi' => absurd hi' hi)
    obtain ⟨node, queue⟩ := rest (edge_no_boundary hs hi he)
    refine ⟨_, exec_turn hs forward level, hold, stop, ?_, record, queue⟩
    rw [node, Node.requestHold_desync (n := (s.turnAdopted forward).node) (Or.inl hr), Bool.or_false]
    rfl
  · obtain ⟨behind, e, he, guards, owed⟩ : findsBehind s forward ∧ ∃ e, s.node.edgeAngle s.bars[n].activeTrim e = some angle
        ∧ crossingMeaning e forward = .guard
        ∧ if forward then s.tracker.angle + 1 < angle ∧ angle ≤ 1439 else 1 ≤ angle ∧ angle < s.tracker.angle := by
      cases forward
      · obtain ⟨h1, h2, h3, he⟩ := h
        exact ⟨⟨h1, h2⟩, _, he, rfl, (Node.edgeAngle_range he).1, h3⟩
      · obtain ⟨h1, h2, h3, he⟩ := h
        exact ⟨⟨h1, h2⟩, _, he, rfl, h3, (Node.edgeAngle_range he).2⟩
    have issued : (⟨n, e, angle, forward⟩ : Crossing) ∈ incrementCrossings (s.turnAdopted forward) forward level := by
      rw [incrementCrossings_index (s := s.turnAdopted forward) forward hv hi]
      refine List.mem_append_right _ (List.mem_flatMap.mpr ⟨angle, ?_, mem_crossingsAt.mpr ⟨rfl, rfl, he⟩⟩)
      exact ((owedAngles_behind behind).2 angle).mpr owed
    obtain ⟨⟨hold, stop⟩, record, -⟩ := State.takeIncrement_guarded (s := s.turnAdopted forward) issued hr hg guards
      hmode moving (behind.noSlip hi)
    exact ⟨_, exec_turn hs forward level, hold, stop, record⟩

end Sys2Proof.Machine


-- ==== What the window crossings do to one bar (O18) ====
namespace Sys2Proof.Machine

/-! ### One crossing at one unit (R123 to R128) -/

theorem takeCrossing_trigger {s : State} {c : Crossing} {needle : Nat} (hr : s.node.state = .running)
    (hmode : s.bars[c.bar].mode = .motion) (hmeans : crossingMeaning c.edge c.forward = .trigger)
    (hn : triggerNeedle s.queue c.bar c.edge c.forward = some needle) : takeCrossing s c = takeCourseTarget s c needle := by
  rw [takeCrossing, if_pos ⟨hr, hmode⟩, hmeans]
  simp only [hn]

theorem takeCrossing_guard {s : State} {c : Crossing} (hr : s.node.state = .running) (hmode : s.bars[c.bar].mode = .motion)
    (hmeans : crossingMeaning c.edge c.forward = .guard) (hm : s.bars[c.bar].motion.isMoving = true) :
    takeCrossing s c = s.reportBar c.bar .guard s.currentTag c.angle := by
  rw [takeCrossing, if_pos ⟨hr, hmode⟩, hmeans]
  exact if_pos hm

/-- A guard does nothing to a bar that is not MOVING. -/
theorem takeCrossing_guard_idle {s : State} {c : Crossing} (hmeans : crossingMeaning c.edge c.forward = .guard)
    (hm : s.bars[c.bar].motion.isMoving = false) : takeCrossing s c = s := by
  rw [takeCrossing]
  split
  · rw [hmeans]
    exact if_neg (by rw [hm]; exact Bool.false_ne_true)
  · rfl

theorem takeCrossing_untargeted {s : State} {c : Crossing} (hmeans : crossingMeaning c.edge c.forward = .trigger)
    (hn : triggerNeedle s.queue c.bar c.edge c.forward = none) : takeCrossing s c = s := by
  rw [takeCrossing]
  split
  · rw [hmeans]
    simp only [hn]
  · rfl

theorem State.setBar_self (s : State) (n : BarIx) : s.setBar n s.bars[n] = s := by
  have : s.bars.set n s.bars[n] = s.bars := by simp
  rw [State.setBar, this]

theorem Bar.giveTarget_here {b : Bar} (h : b.motion = .still) (ramp : Option (List Nat)) :
    b.giveTarget ramp b.pos = b := by
  simp [Bar.giveTarget, h, Bar.startToward]

theorem Bar.posAfterPulse_eq (b : Bar) (up : Bool) :
    b.posAfterPulse up = if b.referenced = false then b.pos else if up then b.pos + 1 else b.pos - 1 := by
  unfold Bar.posAfterPulse
  cases b.referenced <;> rfl

theorem distance_eq (a b : Nat) : distance a b = if b ≤ a then a - b else b - a := by
  unfold distance
  split <;> split <;> omega

theorem Bar.giveTarget_starts {b : Bar} (h : b.motion = .still) {ramp : List Nat} {target : Nat} (ht : target ≠ b.pos) :
    b.giveTarget (some ramp) target
      = { b with
          dirHigh := decide (b.pos < target)
          target := target
          step := true
          pulseLeft := 10
          pos := if b.referenced = false then b.pos else if b.pos < target then b.pos + 1 else b.pos - 1
          motion := .moving { up := decide (b.pos < target), steps := distance b.pos target, emitted := 1, ramp := ramp,
                              left := periodAfter ramp (distance b.pos target) 1 } } := by
  simp only [Bar.giveTarget, h, Bar.startToward, if_neg ht, Bar.startSteps, Bar.movePulse, Bar.posAfterPulse_eq]
  simp [Bar.raiseStep, pulseWidth]

theorem takeCourseTarget_still {s : State} {c : Crossing} (h : s.bars[c.bar].motion = .still) (needle : Nat) :
    takeCourseTarget s c needle = s.setBar c.bar (s.bars[c.bar].giveTarget (s.rampOf s.bars[c.bar])
      (needle * (s.classOf s.bars[c.bar]).spn)) := by
  simp only [takeCourseTarget, h]
  rfl

theorem takeCourseTarget_moving {s : State} {c : Crossing} {m : Move} (h : s.bars[c.bar].motion = .moving m) (needle : Nat) :
    takeCourseTarget s c needle
      = (s.setBar c.bar { s.bars[c.bar] with next := some (needle * (s.classOf s.bars[c.bar]).spn) }).reportBar c.bar .late
          s.currentTag c.angle := by
  simp only [takeCourseTarget, Bar.giveTarget, h]
  rfl

/-- A trigger's crossing gives a unit that is STILL its course target (R114, R124, R125). -/
theorem takeCrossing_still {s : State} {c : Crossing} {needle : Nat} {ramp : List Nat} (hr : s.node.state = .running)
    (hmode : s.bars[c.bar].mode = .motion) (hmeans : crossingMeaning c.edge c.forward = .trigger)
    (hn : triggerNeedle s.queue c.bar c.edge c.forward = some needle) (hramp : s.rampOf s.bars[c.bar] = some ramp)
    (hm : s.bars[c.bar].motion = .still) :
    takeCrossing s c = s.setBar c.bar (s.bars[c.bar].giveTarget (some ramp) (needle * (s.classOf s.bars[c.bar]).spn)) := by
  rw [takeCrossing_trigger hr hmode hmeans hn, takeCourseTarget_still hm, hramp]

/-! ### One bar's share of a series of crossings -/

/-- What the crossings at one bar read, and the bar itself. -/
def SameBar (n : BarIx) (s u : State) : Prop :=
  u.node = s.node ∧ u.queue = s.queue ∧ u.engine = s.engine ∧ u.bars[n] = s.bars[n]

/-- The bar's fault record too. -/
def SameUnit (n : BarIx) (s u : State) : Prop := SameBar n s u ∧ u.faults.bars[n] = s.faults.bars[n]

theorem SameBar.trans {n : BarIx} {s u v : State} (h1 : SameBar n s u) (h2 : SameBar n u v) : SameBar n s v := by
  obtain ⟨n1, q1, e1, b1⟩ := h1
  obtain ⟨n2, q2, e2, b2⟩ := h2
  exact ⟨n2.trans n1, q2.trans q1, e2.trans e1, b2.trans b1⟩

theorem SameUnit.trans {n : BarIx} {s u v : State} (h1 : SameUnit n s u) (h2 : SameUnit n u v) : SameUnit n s v :=
  ⟨h1.1.trans h2.1, h2.2.trans h1.2⟩

theorem SameUnit.refl (n : BarIx) (s : State) : SameUnit n s s := ⟨⟨rfl, rfl, rfl, rfl⟩, rfl⟩

/-- A report to another bar's record leaves this bar's. -/
theorem State.reportBar_other (s : State) {n k : BarIx} (h : k ≠ n) (code : BarCode) (tag : Option Word) (angle : Nat) :
    (s.reportBar n code tag angle).faults.bars[k] = s.faults.bars[k] := by
  have : n.val ≠ k.val := fun e => h (Fin.ext e.symm)
  simp [this]

theorem State.reportBar_same (s : State) (n : BarIx) (code : BarCode) (tag : Option Word) (angle : Nat) :
    (s.reportBar n code tag angle).faults.bars[n] = reportTo s.faults.bars[n] code tag angle := by
  simp

/-- A crossing of another bar leaves this one. -/
theorem takeCrossing_other {n : BarIx} {c : Crossing} (h : n ≠ c.bar) (s : State) : SameUnit n s (takeCrossing s c) := by
  rcases takeCrossing_cases s c with e | ⟨-, -, e⟩ | ⟨needle, -, -, e⟩ <;> rw [e]
  · exact SameUnit.refl n s
  · exact ⟨⟨rfl, rfl, rfl, rfl⟩, State.reportBar_other s h _ _ _⟩
  · unfold takeCourseTarget
    dsimp only
    split
    · exact ⟨⟨rfl, rfl, rfl, State.setBar_other s _ h⟩, State.reportBar_other (s.setBar c.bar _) h _ _ _⟩
    · exact ⟨⟨rfl, rfl, rfl, State.setBar_other s _ h⟩, rfl⟩

/-- A bar once its unit has a course target, by the classes of the engine (R124, R125). -/
def Bar.given (b : Bar) (e : Engine) (needle : Nat) : Bar :=
  b.giveTarget (e.classes[b.cls]).ramp (needle * (e.classes[b.cls]).spn)

theorem takeCourseTarget_own (s : State) (c : Crossing) (needle : Nat) :
    (takeCourseTarget s c needle).bars[c.bar] = s.bars[c.bar].given s.engine needle := by
  unfold takeCourseTarget
  dsimp only
  split
  · exact State.setBar_same s _ _
  · exact State.setBar_same s _ _

theorem takeCourseTarget_sameBar {c : Crossing} {s u : State} (h : SameBar c.bar s u) (needle : Nat) :
    SameBar c.bar (takeCourseTarget s c needle) (takeCourseTarget u c needle) := by
  obtain ⟨node, queue, engine, bar⟩ := h
  refine ⟨?_, ?_, ?_, ?_⟩
  · simpa using node
  · simpa using queue
  · simpa using engine
  · rw [takeCourseTarget_own, takeCourseTarget_own, bar, engine]

/-- A crossing acts on its own bar by what it reads of it. -/
theorem takeCrossing_sameBar {c : Crossing} {s u : State} (h : SameBar c.bar s u) :
    SameBar c.bar (takeCrossing s c) (takeCrossing u c) := by
  have keep := h
  obtain ⟨node, queue, engine, bar⟩ := h
  unfold takeCrossing
  rw [node, queue, bar]
  split
  · split
    · split
      · exact keep
      · exact takeCourseTarget_sameBar keep _
    · split
      · exact keep
      · exact keep
  · exact keep

theorem takeCrossing_sameUnit {c : Crossing} {s u : State} (h : SameUnit c.bar s u) :
    SameUnit c.bar (takeCrossing s c) (takeCrossing u c) := by
  refine ⟨takeCrossing_sameBar h.1, ?_⟩
  obtain ⟨⟨node, queue, engine, bar⟩, record⟩ := h
  have tag : u.currentTag = s.currentTag := by rw [State.currentTag, queue]; rfl
  have reported : ∀ s' u' : State, s'.faults = s.faults → u'.faults = u.faults → ∀ code angle,
      (u'.reportBar c.bar code u.currentTag angle).faults.bars[c.bar]
        = (s'.reportBar c.bar code s.currentTag angle).faults.bars[c.bar] := by
    intro s' u' hs hu code angle
    rw [State.reportBar_same, State.reportBar_same, hs, hu, record, tag]
  unfold takeCrossing
  rw [node, queue, bar]
  split
  · split
    · split
      · exact record
      · unfold takeCourseTarget
        dsimp only
        rw [bar]
        split
        · exact reported (s.setBar _ _) (u.setBar _ _) rfl rfl _ _
        · exact record
    · split
      · exact reported s u rfl rfl _ _
      · exact record
  · exact record

/-- Of a series of crossings, a bar and its record see their own alone. -/
theorem takeCrossings_share {n : BarIx} (cs : List Crossing) {s u : State} (h : SameUnit n s u) :
    SameUnit n (takeCrossings s (cs.filter (·.bar = n))).1 (takeCrossings u cs).1 := by
  induction cs generalizing s u with
  | nil => exact h
  | cons c rest ih =>
    by_cases hc : c.bar = n
    · subst hc
      rw [List.filter_cons_of_pos (by simp)]
      exact ih (takeCrossing_sameUnit h)
    · rw [List.filter_cons_of_neg (by simpa using hc)]
      exact ih (h.trans (takeCrossing_other (Ne.symm hc) u))

end Sys2Proof.Machine


-- ==== Which of a bar's edges an increment crosses (R4, R5; O18) ====
namespace Sys2Proof.Machine

/-- A list that holds one element of interest once gives what that element gives. -/
theorem flatMap_single {α β : Type} {l : List α} {f : α → List β} {a : α} (hl : l.Nodup) (ha : a ∈ l)
    (h : ∀ b ∈ l, b ≠ a → f b = []) : l.flatMap f = f a := by
  induction l with
  | nil => cases ha
  | cons b rest ih =>
    obtain ⟨hb, hrest⟩ := List.nodup_cons.mp hl
    rw [List.flatMap_cons]
    by_cases e : b = a
    · subst e
      have none : rest.flatMap f = [] := List.flatMap_eq_nil_iff.mpr fun x hx =>
        h x (List.mem_cons_of_mem b hx) fun ex => hb (ex ▸ hx)
      rw [none, List.append_nil]
    · rw [h b List.mem_cons_self e, List.nil_append]
      exact ih hrest ((List.mem_cons.mp ha).resolve_left (Ne.symm e)) fun x hx => h x (List.mem_cons_of_mem b hx)

theorem barCrossings_bar {s : State} {forward : Bool} {angle : Nat} {n : BarIx} {c : Crossing}
    (h : c ∈ barCrossings s forward angle n) : c.bar = n := by
  obtain ⟨e, -, rfl⟩ := List.mem_map.mp h
  rfl

/-- Of the crossings at an angle, a bar has its own. -/
theorem crossingsAt_share (s : State) (forward : Bool) (angle : Nat) (n : BarIx) :
    (crossingsAt s forward angle).filter (·.bar = n) = barCrossings s forward angle n := by
  rw [crossingsAt, List.filter_flatMap, flatMap_single (a := n) (List.nodup_finRange 16) (List.mem_finRange n)]
  · exact List.filter_eq_self.mpr fun c hc => decide_eq_true (barCrossings_bar hc)
  · intro k _ hk
    exact List.filter_eq_nil_iff.mpr fun c hc => by simpa [barCrossings_bar hc] using hk

theorem barCrossings_none {s : State} {forward : Bool} {angle : Nat} {n : BarIx}
    (h : ∀ e, s.node.edgeAngle s.bars[n].activeTrim e ≠ some angle) : barCrossings s forward angle n = [] := by
  rw [barCrossings, List.filter_eq_nil_iff.mpr]
  · rfl
  · intro e _ he
    exact h e (by simpa using he)

/-! ### Edges of one bar at one angle (R4, R122) -/

/-- Where an edge lies before the trim moves it. -/
def Node.edgeBase (n : Node) : Edge → Nat
  | .underlapStart => n.us
  | .underlapEnd => n.us + n.ul
  | .overlapStart => n.os
  | .overlapEnd => n.os + n.ol

theorem Node.edgeAngle_eq {n : Node} (h : n.windowsOk = true) (trim : Int) (e : Edge) :
    n.edgeAngle trim e = some ((n.edgeBase e : Int) + n.effectiveTrim trim).toNat := by
  cases e <;> simp [Node.edgeAngle, h, Node.edgeBase]

theorem Node.edgeAngle_windows {n : Node} {trim : Int} {e : Edge} {angle : Nat} (h : n.edgeAngle trim e = some angle) :
    n.windowsOk = true := by
  by_contra hw
  simp [Node.edgeAngle, hw] at h

theorem Node.windowsOk_iff (n : Node) :
    n.windowsOk = true ↔ 1 ≤ n.us ∧ n.us + n.ul ≤ n.os ∧ n.os + n.ol ≤ 1439 := by
  simp [Node.windowsOk, and_assoc]

/-- The trim moves all edges alike: the distance of two edges is that of their bases. -/
theorem Node.edgeAngle_distance {n : Node} {trim : Int} {e e' : Edge} {angle angle' : Nat}
    (h : n.edgeAngle trim e = some angle) (h' : n.edgeAngle trim e' = some angle') :
    n.edgeBase e + angle' = n.edgeBase e' + angle := by
  have hw := Node.edgeAngle_windows h
  have low : ∀ e, 1 ≤ (n.edgeBase e : Int) + n.effectiveTrim trim := by
    intro e
    obtain ⟨h1, h2, h3⟩ := (Node.windowsOk_iff n).mp hw
    cases e <;> simp only [Node.edgeBase, Node.effectiveTrim] <;> omega
  rw [Node.edgeAngle_eq hw, Option.some.injEq] at h h'
  have := low e
  have := low e'
  omega

theorem Node.edgeAngle_same {n : Node} {trim : Int} {e : Edge} {angle : Nat} (h : n.edgeAngle trim e = some angle)
    (e' : Edge) : n.edgeAngle trim e' = some angle ↔ n.edgeBase e' = n.edgeBase e := by
  constructor
  · intro h'
    have := Node.edgeAngle_distance h h'
    omega
  · intro hb
    have hw := Node.edgeAngle_windows h
    rw [Node.edgeAngle_eq hw, hb, ← Node.edgeAngle_eq hw, h]

/-- A bar's crossings at the angle of an edge are those of the edges with the same base. -/
theorem barCrossings_eq {s : State} {n : BarIx} {e : Edge} {angle : Nat}
    (h : s.node.edgeAngle s.bars[n].activeTrim e = some angle) (forward : Bool) :
    barCrossings s forward angle n
      = ((edgeOrder forward).filter fun e' => decide (s.node.edgeBase e' = s.node.edgeBase e)).map fun e' =>
          ⟨n, e', angle, forward⟩ := by
  rw [barCrossings]
  congr 1
  refine List.filter_congr fun e' _ => ?_
  rw [Bool.eq_iff_iff, beq_iff_eq, decide_eq_true_iff, Node.edgeAngle_same h]

/-- The edges that meet where the underlap ends as the overlap starts. -/
def Edge.pairs (e e' : Edge) : Bool :=
  e' == e || (e == .underlapEnd && e' == .overlapStart) || (e == .overlapStart && e' == .underlapEnd)

/-- With windows that are not empty, two edges share an angle only where the underlap ends as the overlap starts (R122). -/
theorem Node.edgeBase_eq_iff {n : Node} (hw : n.windowsOk = true) (hu : 1 ≤ n.ul) (ho : 1 ≤ n.ol) (e e' : Edge) :
    n.edgeBase e' = n.edgeBase e ↔ (if n.us + n.ul = n.os then Edge.pairs e e' else e' == e) = true := by
  obtain ⟨h1, h2, h3⟩ := (Node.windowsOk_iff n).mp hw
  split
  · cases e <;> cases e' <;> simp [Node.edgeBase, Edge.pairs] <;> omega
  · cases e <;> cases e' <;> simp [Node.edgeBase] <;> omega

/-- The crossings of a bar at the angle of an edge, in the order of R5: the edge's alone, or with that of the edge it meets. -/
theorem barCrossings_at {s : State} {n : BarIx} {e : Edge} {angle : Nat}
    (h : s.node.edgeAngle s.bars[n].activeTrim e = some angle) (hu : 1 ≤ s.node.ul) (ho : 1 ≤ s.node.ol) (forward : Bool) :
    barCrossings s forward angle n
      = (if s.node.us + s.node.ul = s.node.os then (edgeOrder forward).filter (Edge.pairs e) else [e]).map fun e' =>
          ⟨n, e', angle, forward⟩ := by
  have hw := Node.edgeAngle_windows h
  have alone : (edgeOrder forward).filter (· == e) = [e] := by
    cases forward <;> cases e <;> rfl
  rw [barCrossings_eq h]
  congr 1
  have bases : ∀ e' ∈ edgeOrder forward, decide (s.node.edgeBase e' = s.node.edgeBase e)
      = if s.node.us + s.node.ul = s.node.os then Edge.pairs e e' else e' == e := fun e' _ => by
    rw [Bool.eq_iff_iff, decide_eq_true_iff, Node.edgeBase_eq_iff hw hu ho]
  rw [List.filter_congr bases]
  split
  · rfl
  · exact alone

/-- A trigger's edge is crossed alone, or right after the guard's edge that it meets (R5). -/
theorem barCrossings_trigger {s : State} {n : BarIx} {e : Edge} {angle : Nat} {forward : Bool}
    (h : s.node.edgeAngle s.bars[n].activeTrim e = some angle) (hu : 1 ≤ s.node.ul) (ho : 1 ≤ s.node.ol)
    (hmeans : crossingMeaning e forward = .trigger) :
    barCrossings s forward angle n = [⟨n, e, angle, forward⟩]
      ∨ (s.node.us + s.node.ul = s.node.os ∧ ∃ g, crossingMeaning g forward = .guard
          ∧ barCrossings s forward angle n = [⟨n, g, angle, forward⟩, ⟨n, e, angle, forward⟩]) := by
  rw [barCrossings_at h hu ho]
  split
  · rename_i meet
    match forward, e, hmeans with
    | true, .underlapStart, _ => exact Or.inl rfl
    | true, .overlapStart, _ => exact Or.inr ⟨meet, .underlapEnd, rfl, rfl⟩
    | false, .overlapEnd, _ => exact Or.inl rfl
    | false, .underlapEnd, _ => exact Or.inr ⟨meet, .overlapStart, rfl, rfl⟩
  · exact Or.inl rfl

/-- A guard's edge is crossed alone, or right before the trigger's edge that it meets. -/
theorem barCrossings_guard {s : State} {n : BarIx} {e : Edge} {angle : Nat} {forward : Bool}
    (h : s.node.edgeAngle s.bars[n].activeTrim e = some angle) (hu : 1 ≤ s.node.ul) (ho : 1 ≤ s.node.ol)
    (hmeans : crossingMeaning e forward = .guard) :
    barCrossings s forward angle n = [⟨n, e, angle, forward⟩]
      ∨ (s.node.us + s.node.ul = s.node.os ∧ ∃ c, c.bar = n
          ∧ barCrossings s forward angle n = [⟨n, e, angle, forward⟩, c]) := by
  rw [barCrossings_at h hu ho]
  split
  · rename_i meet
    match forward, e, hmeans with
    | true, .underlapEnd, _ => exact Or.inr ⟨meet, ⟨n, .overlapStart, angle, true⟩, rfl, rfl⟩
    | true, .overlapEnd, _ => exact Or.inl rfl
    | false, .overlapStart, _ => exact Or.inr ⟨meet, ⟨n, .underlapEnd, angle, false⟩, rfl, rfl⟩
    | false, .underlapStart, _ => exact Or.inl rfl
  · exact Or.inl rfl

end Sys2Proof.Machine


-- ==== An increment's crossings at one bar (O18) ====
namespace Sys2Proof.Machine

/-! ### A bar's share of an increment's crossings -/

/-- A bar none of whose edges lies at the angle crossed has no share of the ordinary crossings. -/
theorem ordinaryCrossings_share {s : State} {forward : Bool} {n : BarIx}
    (h : ∀ e, s.node.edgeAngle s.bars[n].activeTrim e ≠ some (crossedAngle s forward)) :
    (ordinaryCrossings s s.tracker forward).filter (·.bar = n) = [] := by
  unfold ordinaryCrossings
  split
  · by_cases hw : forward = true ∧ s.tracker.angle = 1439
    · obtain ⟨rfl, ha⟩ := hw
      simp [ha, nextAngle, crossingsAt_zero]
    · have angle : (if forward = true then nextAngle s.tracker.angle forward else s.tracker.angle)
          = crossedAngle s forward := by
        cases forward
        · rfl
        · have : s.tracker.angle ≠ 1439 := fun e => hw ⟨rfl, e⟩
          simp [crossedAngle, nextAngle, this]
      rw [angle, crossingsAt_share, barCrossings_none h]
  · rfl

theorem forwardCorrection_edges (v : Nat) :
    (forwardCorrection v).boundary = false → (forwardCorrection v).edges = [] := by
  unfold forwardCorrection
  split
  · exact fun _ => rfl
  · split
    · nofun
    · exact fun _ => rfl

theorem reverseCorrection_edges (v : Nat) :
    (reverseCorrection v).boundary = false → (reverseCorrection v).edges = [] := by
  unfold reverseCorrection
  split
  · exact fun _ => rfl
  · split
    · nofun
    · exact fun _ => rfl

/-- A correction that brings no boundary owes no crossing (R7 to R9). -/
theorem correctionOf_edges {forward : Bool} {v : Nat} (h : (correctionOf forward v).boundary = false) :
    (correctionOf forward v).edges = [] := by
  cases forward
  · exact reverseCorrection_edges v h
  · exact forwardCorrection_edges v h

theorem incrementCrossings_uncrossed {s : State} {forward level : Bool} (hx : s.tracker.crosses forward level = false) :
    incrementCrossings s forward level = ordinaryCrossings s s.tracker forward := by
  rw [Tracker.crosses, Bool.or_eq_false_iff] at hx
  obtain ⟨-, hc⟩ := hx
  unfold incrementCrossings
  cases e : s.tracker.correction forward level with
  | none => exact List.append_nil _
  | some c =>
    have edges : c.edges = [] := by
      rw [e] at hc
      by_cases h : s.tracker.rises level = false ∨ s.tracker.angleValid = false
      · rw [Tracker.correction_none forward h] at e
        cases e
      · obtain ⟨hr, hv⟩ : s.tracker.rises level = true ∧ s.tracker.angleValid = true := by simpa using h
        rw [Tracker.correction_some forward hr hv, Option.some.injEq] at e
        rw [← e] at hc ⊢
        exact correctionOf_edges hc
    simp [edges]

/-- With the guard enable clear, an increment in RUNNING that is no slip leaves to a bar and its record what its own
crossings do, and then the boundary. -/
theorem State.takeIncrement_share {s : State} {forward level : Bool} (hr : s.node.state = .running)
    (hg : s.node.guardEnable = false) (slips : s.tracker.slips forward level = false) (n : BarIx) :
    ∃ u, Crossed (s.begun forward level) u
      ∧ SameUnit n (takeCrossings s ((incrementCrossings s forward level).filter (·.bar = n))).1 u
      ∧ s.takeIncrement forward level = u.boundaryPart s forward level := by
  rw [State.takeIncrement_unguarded hr hg, State.slipPart_none slips]
  exact ⟨_, takeCrossings_crossed _ _, takeCrossings_share _ ⟨⟨rfl, rfl, rfl, rfl⟩, rfl⟩, rfl⟩

/-- The same for an increment without an index that crosses an edge: it has no boundary. -/
theorem State.takeIncrement_edge {s : State} {forward level : Bool} {trim : Int} {e : Edge} (hs : s.samples)
    (hi : ¬ s.indexRises level) (hr : s.node.state = .running) (hg : s.node.guardEnable = false)
    (he : s.node.edgeAngle trim e = some (crossedAngle s forward)) (n : BarIx) :
    let t := s.takeIncrement forward level
    t.node = s.node ∧ t.queue = s.queue
      ∧ SameUnit n (takeCrossings s ((incrementCrossings s forward level).filter (·.bar = n))).1 t := by
  obtain ⟨u, ⟨crossed, -⟩, share, t⟩ := State.takeIncrement_share hr hg
    (Tracker.slips_within fun hi' => absurd hi' hi) (level := level) (forward := forward) n
  dsimp only
  rw [t, State.boundaryPart_none (edge_no_boundary hs hi he)]
  exact ⟨by rw [crossed]; rfl, by rw [crossed]; rfl, share⟩

/-- Without an index, and where nothing is withheld, a bar's share is the crossings of its edges at the angle crossed. -/
theorem incrementCrossings_share {s : State} {forward level : Bool} {trim : Int} {e : Edge}
    (hv : s.tracker.angleValid = true) (hi : ¬ s.indexRises level)
    (issues : s.tracker.recross = 0 ∨ s.tracker.recrossForward ≠ forward)
    (he : s.node.edgeAngle trim e = some (crossedAngle s forward)) (n : BarIx) :
    (incrementCrossings s forward level).filter (·.bar = n) = barCrossings s forward (crossedAngle s forward) n := by
  have wrap : forward = true → s.tracker.angle ≠ 1439 := by
    rintro rfl hw
    have := (Node.edgeAngle_range he).2
    simp [crossedAngle, hw] at this
  rw [incrementCrossings_ordinary hi, ordinaryCrossings_issued hv issues wrap, crossingsAt_share]

/-! ### Triggers and guards of an ordinary increment -/

/-- A guard changes no bar. -/
theorem takeCrossing_guard_sameBar {s : State} {c : Crossing} (h : crossingMeaning c.edge c.forward = .guard) (n : BarIx) :
    SameBar n s (takeCrossing s c) := by
  rcases takeCrossing_cases s c with e | ⟨-, -, e⟩ | ⟨needle, htrigger, -⟩
  · rw [e]
    exact (SameUnit.refl n s).1
  · rw [e]
    exact ⟨rfl, rfl, rfl, rfl⟩
  · rw [h] at htrigger
    cases htrigger

/-- A crossing leaves a record, or reports to it. -/
theorem takeCrossing_record (s : State) (c : Crossing) (n : BarIx) :
    (takeCrossing s c).faults.bars[n] = s.faults.bars[n]
      ∨ ∃ code tag angle, (takeCrossing s c).faults.bars[n] = reportTo s.faults.bars[n] code tag angle := by
  by_cases hn : n = c.bar
  · subst hn
    rcases takeCrossing_cases s c with e | ⟨-, -, e⟩ | ⟨needle, -, -, e⟩ <;> rw [e]
    · exact Or.inl rfl
    · exact Or.inr ⟨_, _, _, State.reportBar_same s _ _ _ _⟩
    · unfold takeCourseTarget
      dsimp only
      split
      · exact Or.inr ⟨_, _, _, State.reportBar_same (s.setBar _ _) _ _ _ _⟩
      · exact Or.inl rfl
  · exact Or.inl (takeCrossing_other hn s).2

/-- A bar's share of the crossings at a trigger's edge moves the bar as the trigger does (R5). -/
theorem trigger_share {s : State} {n : BarIx} {e : Edge} {angle : Nat} {forward : Bool}
    (he : s.node.edgeAngle s.bars[n].activeTrim e = some angle) (hu : 1 ≤ s.node.ul) (ho : 1 ≤ s.node.ol)
    (hmeans : crossingMeaning e forward = .trigger) :
    let issued := takeCrossing s ⟨n, e, angle, forward⟩
    let share := (takeCrossings s (barCrossings s forward angle n)).1
    share.bars[n] = issued.bars[n]
      ∧ (s.node.us + s.node.ul < s.node.os → share.faults.bars[n] = issued.faults.bars[n]) := by
  rcases barCrossings_trigger he hu ho hmeans with b | ⟨meet, g, hguard, b⟩ <;> rw [b]
  · exact ⟨rfl, fun _ => rfl⟩
  · obtain ⟨-, -, -, bar⟩ := takeCrossing_sameBar (c := ⟨n, e, angle, forward⟩)
      (takeCrossing_guard_sameBar (s := s) (c := ⟨n, g, angle, forward⟩) hguard n)
    exact ⟨bar, fun apart => absurd meet (by omega)⟩

/-- A bar's share of the crossings at a guard's edge: GUARD first, then what a trigger's edge there may add. -/
theorem guard_share {s : State} {n : BarIx} {e : Edge} {angle : Nat} {forward : Bool} {m : Move}
    (he : s.node.edgeAngle s.bars[n].activeTrim e = some angle) (hu : 1 ≤ s.node.ul) (ho : 1 ≤ s.node.ol)
    (hmeans : crossingMeaning e forward = .guard) (hr : s.node.state = .running) (hmode : s.bars[n].mode = .motion)
    (hm : s.bars[n].motion = .moving m) :
    let share := (takeCrossings s (barCrossings s forward angle n)).1
    (∃ c, share.faults.bars[n] = some c
        ∧ (s.faults.bars[n] = none → c.code = .guard ∧ c.tag = s.currentTag ∧ c.angle = angle))
      ∧ (s.node.us + s.node.ul < s.node.os →
          share.faults.bars[n] = s.barRecord n .guard s.currentTag angle ∧ share.bars[n] = s.bars[n]) := by
  have moving : s.bars[n].motion.isMoving = true := by rw [hm]; rfl
  have guarded := takeCrossing_guard (c := ⟨n, e, angle, forward⟩) hr hmode hmeans moving
  have record : (takeCrossing s ⟨n, e, angle, forward⟩).faults.bars[n] = reportTo s.faults.bars[n] .guard s.currentTag angle := by
    rw [guarded]
    exact State.reportBar_same s n _ _ _
  have captured : ∃ c, reportTo s.faults.bars[n] .guard s.currentTag angle = some c
      ∧ (s.faults.bars[n] = none → c.code = .guard ∧ c.tag = s.currentTag ∧ c.angle = angle) := by
    cases h : s.faults.bars[n] with
    | none => exact ⟨_, rfl, fun _ => ⟨rfl, rfl, rfl⟩⟩
    | some old => exact ⟨_, rfl, nofun⟩
  obtain ⟨c, hc, first⟩ := captured
  rcases barCrossings_guard he hu ho hmeans with b | ⟨meet, d, -, b⟩ <;> rw [b]
  · refine ⟨⟨c, record.trans hc, first⟩, fun _ => ⟨?_, ?_⟩⟩
    · rw [State.barRecord_eq]
      exact record
    · rw [takeCrossings, takeCrossings, guarded]
      rfl
  · refine ⟨?_, fun apart => absurd meet (by omega)⟩
    rcases takeCrossing_record (takeCrossing s ⟨n, e, angle, forward⟩) d n with h | ⟨code, tag, a, h⟩
    · exact ⟨c, h.trans (record.trans hc), first⟩
    · refine ⟨{ c with repeated := true }, ?_, first⟩
      rw [takeCrossings, takeCrossings, takeCrossings, h, record, hc, reportTo_some]

/-! ### The crossings an index still owes -/

/-- Near the wrap, windows of 16 and more leave a bar one edge: the overlap end forwards, the underlap start in reverse. -/
theorem late_edge_alone {s : State} {n : BarIx} {forward : Bool} {angle angle' : Nat} {e' : Edge}
    (behind : findsBehind s forward) (hu : 16 ≤ s.node.ul) (ho : 16 ≤ s.node.ol)
    (he : s.node.edgeAngle s.bars[n].activeTrim (if forward then .overlapEnd else .underlapStart) = some angle)
    (he' : s.node.edgeAngle s.bars[n].activeTrim e' = some angle')
    (near : if forward then s.tracker.angle < angle' else angle ≤ s.tracker.angle ∧ angle' ≤ s.tracker.angle) :
    angle' = angle := by
  have apart := Node.edgeAngle_distance he he'
  obtain ⟨l, h⟩ := Node.edgeAngle_range he
  obtain ⟨l', h'⟩ := Node.edgeAngle_range he'
  obtain ⟨-, h2, -⟩ := (Node.windowsOk_iff s.node).mp (Node.edgeAngle_windows he)
  cases forward
  · obtain ⟨-, b⟩ : 2 ≤ s.tracker.angle ∧ s.tracker.angle ≤ 4 := behind
    obtain ⟨-, near⟩ : angle ≤ s.tracker.angle ∧ angle' ≤ s.tracker.angle := near
    cases e' <;> simp [Node.edgeBase] at apart <;> omega
  · obtain ⟨b, -⟩ : 1435 ≤ s.tracker.angle ∧ s.tracker.angle ≤ 1437 := behind
    have near : s.tracker.angle < angle' := near
    cases e' <;> simp [Node.edgeBase] at apart <;> omega

/-- An outer edge of the windows is crossed alone. -/
theorem barCrossings_outer {s : State} {n : BarIx} {angle : Nat} {forward : Bool} (hu : 1 ≤ s.node.ul) (ho : 1 ≤ s.node.ol)
    (he : s.node.edgeAngle s.bars[n].activeTrim (if forward then .overlapEnd else .underlapStart) = some angle) :
    barCrossings s forward angle n = [⟨n, if forward then .overlapEnd else .underlapStart, angle, forward⟩] := by
  rw [barCrossings_at he hu ho]
  cases forward
  · split <;> rfl
  · split <;> rfl

/-- The share of a bar whose one edge near the wrap is still owed (R7, R8). -/
theorem lateCrossings_share {s : State} {n : BarIx} {forward level : Bool} {angle : Nat}
    (hv : s.tracker.angleValid = true) (hi : s.indexRises level) (behind : findsBehind s forward) (hu : 16 ≤ s.node.ul)
    (ho : 16 ≤ s.node.ol)
    (he : s.node.edgeAngle s.bars[n].activeTrim (if forward then .overlapEnd else .underlapStart) = some angle)
    (owed : if forward then s.tracker.angle + 1 < angle else angle < s.tracker.angle) :
    (incrementCrossings s forward level).filter (·.bar = n)
      = [⟨n, if forward then .overlapEnd else .underlapStart, angle, forward⟩] := by
  obtain ⟨nodup, mem⟩ := owedAngles_behind behind
  obtain ⟨l, h⟩ := Node.edgeAngle_range he
  have none : (ordinaryCrossings s s.tracker forward).filter (·.bar = n) = [] := by
    refine ordinaryCrossings_share fun e' he' => ?_
    cases forward
    · have owed : angle < s.tracker.angle := owed
      exact absurd (late_edge_alone behind hu ho he he' ⟨by omega, Nat.le_refl _⟩) (by simp [crossedAngle]; omega)
    · have owed : s.tracker.angle + 1 < angle := owed
      exact absurd (late_edge_alone behind hu ho he he' (Nat.lt_succ_self s.tracker.angle)) (by simp [crossedAngle]; omega)
  have share : ((owedAngles s forward).flatMap (crossingsAt s forward)).filter (·.bar = n)
      = (owedAngles s forward).flatMap fun a => barCrossings s forward a n := by
    rw [List.filter_flatMap]
    exact congrArg (List.flatMap · (owedAngles s forward)) (funext fun a => crossingsAt_share s forward a n)
  rw [incrementCrossings_index forward hv hi, List.filter_append, none, List.nil_append, share,
    flatMap_single (a := angle) nodup, barCrossings_outer (by omega) (by omega) he]
  · rw [mem]
    cases forward
    · exact ⟨l, owed⟩
    · exact ⟨owed, h⟩
  · intro a ha hne
    refine barCrossings_none fun e' he' => hne (late_edge_alone behind hu ho he he' ?_)
    rw [mem] at ha
    cases forward
    · obtain ⟨h1, h2⟩ : 1 ≤ a ∧ a < s.tracker.angle := ha
      have owed : angle < s.tracker.angle := owed
      exact ⟨by omega, by omega⟩
    · obtain ⟨h1, h2⟩ : s.tracker.angle + 1 < a ∧ a ≤ 1439 := ha
      show s.tracker.angle < a
      omega

/-- A guard still owed at an index is reported; the boundary after it makes the trims active forwards alone. -/
theorem State.takeIncrement_late_guard {s : State} {n : BarIx} {forward level : Bool} {angle : Nat} {m : Move}
    (hv : s.tracker.angleValid = true) (hi : s.indexRises level) (hr : s.node.state = .running)
    (hg : s.node.guardEnable = false) (behind : findsBehind s forward) (hu : 16 ≤ s.node.ul) (ho : 16 ≤ s.node.ol)
    (hmode : s.bars[n].mode = .motion) (hm : s.bars[n].motion = .moving m)
    (he : s.node.edgeAngle s.bars[n].activeTrim (if forward then .overlapEnd else .underlapStart) = some angle)
    (owed : if forward then s.tracker.angle + 1 < angle else angle < s.tracker.angle) :
    ∃ u : State, u.node = s.node ∧ u.bars[n] = s.bars[n]
      ∧ s.takeIncrement forward level = u.boundaryPart s forward level
      ∧ (s.takeIncrement forward level).faults.bars[n] = s.barRecord n .guard s.currentTag angle := by
  obtain ⟨u, ⟨crossed, -⟩, share, t⟩ := State.takeIncrement_share hr hg (behind.noSlip hi) n
  have moving : s.bars[n].motion.isMoving = true := by rw [hm]; rfl
  have guards : crossingMeaning (if forward then .overlapEnd else .underlapStart) forward = .guard := by
    cases forward <;> rfl
  rw [lateCrossings_share hv hi behind hu ho he owed, takeCrossings, takeCrossings,
    takeCrossing_guard hr hmode guards moving] at share
  obtain ⟨⟨-, -, -, bar⟩, record⟩ := share
  refine ⟨u, by rw [crossed]; rfl, bar, t, ?_⟩
  rw [t, State.boundaryPart_faultBars, record, State.barRecord_eq]
  exact State.reportBar_same s n _ _ _

/-- A forward boundary in RUNNING makes every bar's trim active. -/
theorem boundaryPart_trims {s u : State} {level : Bool} (hx : s.tracker.crosses true level = true)
    (hr : u.node.state = .running) : (u.boundaryPart s true level).bars = activateTrims u.bars := by
  cases hp : u.queue.pending with
  | nil =>
    obtain ⟨-, -, bars, -⟩ := boundaryPart_dry hx (Or.inl hr) hp
    exact bars
  | cons head rest => exact (boundaryPart_steps hx (Or.inl hr) hp).2

/-! ### An increment in RUNNING that crosses no boundary -/

/-- It leaves the queue, and a bar none of whose edges it crosses with its record. -/
theorem State.takeIncrement_uncrossing {s : State} {forward level : Bool} (hr : s.node.state = .running)
    (hx : s.tracker.crosses forward level = false) {n : BarIx}
    (h : ∀ e, s.node.edgeAngle s.bars[n].activeTrim e ≠ some (crossedAngle s forward)) :
    let t := s.takeIncrement forward level
    t.bars[n] = s.bars[n] ∧ t.faults.bars[n] = s.faults.bars[n] := by
  intro t
  obtain ⟨taken, sub, hcase⟩ := State.takeIncrement_running hr forward level
  have none : taken.filter (·.bar = n) = [] := by
    have all := ordinaryCrossings_share h
    rw [← incrementCrossings_uncrossed hx, List.filter_eq_nil_iff] at all
    exact List.filter_eq_nil_iff.mpr fun c hc => all c (sub hc)
  have share : SameUnit n s (takeCrossings (s.begun forward level) taken).1 := by
    have share := takeCrossings_share (n := n) taken (s := s) (u := s.begun forward level) ⟨⟨rfl, rfl, rfl, rfl⟩, rfl⟩
    rw [none] at share
    exact share
  obtain ⟨⟨-, -, -, bar⟩, record⟩ := share
  have parts : t.bars = (takeCrossings (s.begun forward level) taken).1.bars
      ∧ t.faults.bars = (takeCrossings (s.begun forward level) taken).1.faults.bars := by
    rcases hcase with ⟨-, e⟩ | ⟨-, -, e | e⟩ <;> rw [show t = _ from e, State.boundaryPart_none hx]
    · exact ⟨State.slipPart_bars _ _ _ _, State.slipPart_faultBars _ _ _ _⟩
    · exact ⟨State.slipPart_bars _ _ _ _, State.slipPart_faultBars _ _ _ _⟩
    · exact ⟨State.slipPart_bars _ _ _ _, State.slipPart_faultBars _ _ _ _⟩
  rw [parts.1, parts.2]
  exact ⟨bar, record⟩

/-- Its node record takes the slip's report alone, its node the slip's HOLD; with the guard enable clear nothing else. -/
theorem State.takeIncrement_uncrossing_node {s : State} {forward level : Bool} (hr : s.node.state = .running)
    (hx : s.tracker.crosses forward level = false) :
    let t := s.takeIncrement forward level
    t.queue = s.queue
      ∧ (s.node.guardEnable = false → s.tracker.slips forward level = false →
          t.node = s.node ∧ t.faults.node = s.faults.node)
      ∧ (s.tracker.slips forward level = true →
          t.node = s.node.heldOutOfStep ∧ t.faults.node = s.nodeRecord .indexSlip s.currentTag (s.turned forward)) := by
  intro t
  obtain ⟨v, ran, hcase⟩ := State.takeIncrement_running_cases hr forward level
  rw [State.boundaryPart_none hx] at hcase
  obtain ⟨queue, -, faults⟩ := hcase.fields
  refine ⟨?_, fun hg slips => ?_, fun slips => ?_⟩
  · rw [show t.queue = _ from queue]
    exact (State.slipPart_queue v s forward level).trans ran.1
  · obtain ⟨node, e⟩ := hcase.unguarded hg
    rw [show t = _ from e, State.slipPart_none slips]
    exact ⟨node, ran.2.1⟩
  · rw [State.slipPart_slips slips] at hcase faults
    refine ⟨hcase.outOfStep hr rfl, ?_⟩
    rw [show t.faults = _ from faults, State.nodeRecord_eq, ← ran.2.1, ← ran.currentTag]
    rfl

end Sys2Proof.Machine


-- ==== O18 ====
namespace Sys2Proof.Machine

/-- The meaning of a crossing and the needle it asks for, with the records it reads (R123 to R125). -/
theorem trigger_reads {s : State} {c : Crossing} {cur : CourseRecord} (hcur : s.queue.current = some cur) {needle : Nat}
    (h : (c.edge = .underlapStart ∧ c.forward = true ∧ needle = cur.plans[c.bar].lead)
      ∨ (c.edge = .overlapStart ∧ c.forward = true ∧ needle = cur.plans[c.bar].trail)
      ∨ (c.edge = .overlapEnd ∧ c.forward = false ∧ needle = cur.plans[c.bar].lead)
      ∨ (c.edge = .underlapEnd ∧ c.forward = false
          ∧ ∃ old, s.queue.history.getLast? = some old ∧ needle = old.plans[c.bar].trail)) :
    crossingMeaning c.edge c.forward = .trigger ∧ triggerNeedle s.queue c.bar c.edge c.forward = some needle := by
  rcases h with ⟨he, hf, rfl⟩ | ⟨he, hf, rfl⟩ | ⟨he, hf, rfl⟩ | ⟨he, hf, old, hold, rfl⟩ <;> rw [he, hf]
  · exact ⟨rfl, by rw [triggerNeedle, hcur]; rfl⟩
  · exact ⟨rfl, by rw [triggerNeedle, hcur]; rfl⟩
  · exact ⟨rfl, by rw [triggerNeedle, hcur]; rfl⟩
  · exact ⟨rfl, by rw [triggerNeedle, hold]; rfl⟩

theorem guard_means {e : Edge} {forward : Bool}
    (h : ((e = .underlapEnd ∨ e = .overlapEnd) ∧ forward = true)
      ∨ ((e = .underlapStart ∨ e = .overlapStart) ∧ forward = false)) : crossingMeaning e forward = .guard := by
  rcases h with ⟨rfl | rfl, rfl⟩ | ⟨rfl | rfl, rfl⟩ <;> rfl

theorem guard_means_if {e : Edge} {forward : Bool}
    (h : if forward then e = .underlapEnd ∨ e = .overlapEnd else e = .underlapStart ∨ e = .overlapStart) :
    crossingMeaning e forward = .guard := by
  cases forward
  · exact guard_means (Or.inr ⟨h, rfl⟩)
  · exact guard_means (Or.inl ⟨h, rfl⟩)

theorem trigger_means_if {e : Edge} {forward : Bool}
    (h : if forward then e = .underlapStart ∨ e = .overlapStart else e = .underlapEnd ∨ e = .overlapEnd) :
    crossingMeaning e forward = .trigger := by
  cases forward
  · rcases h with rfl | rfl <;> rfl
  · rcases h with rfl | rfl <;> rfl

theorem Motion.isMoving_false {m : Motion} (h : ∀ x, m ≠ .moving x) : m.isMoving = false := by
  cases m with
  | still => rfl
  | moving x => exact absurd rfl (h x)
  | searching x => rfl

theorem slips_iff_spelled (s : State) (forward level : Bool) :
    s.tracker.slips forward level = true ↔ s.tracker.angleValid = true ∧ s.indexRises level
      ∧ (if forward then 5 ≤ s.turned true ∧ s.turned true ≤ 1435 else 4 ≤ s.turned false ∧ s.turned false ≤ 1434) := by
  rw [Tracker.slips_iff]
  cases forward <;> rfl

/-- The adopted pair of levels is no part of what a crossing reads. -/
theorem turnAdopted_sameUnit (s : State) (forward : Bool) (n : BarIx) : SameUnit n s (s.turnAdopted forward) :=
  ⟨⟨rfl, rfl, rfl, rfl⟩, rfl⟩

/-- Settles O18, clause by clause: one crossing, the crossings of an ordinary increment, those of a late index, and an
increment that crosses no boundary. -/
theorem crossingsStartAndGuard : Obligations.CrossingsStartAndGuard := by
  refine ⟨fun s c cur ramp hr hmode hcur hramp needle h => ?_, fun s c => ⟨?_, ?_, fun hedge => ?_⟩,
    fun s forward level n e hs hv hi hr hg hu ho hedge he => ⟨fun issues => ?_, fun h0 hf => ?_⟩,
    fun s forward level n e m hs hv hi hr hg hu ho hmode hm issues hedge he => ?_,
    fun s level n m angle hs hv hi hr hg hu ho hmode hm => ⟨fun h1 h2 h3 he => ?_, fun h1 h2 h3 he => ?_⟩,
    fun s forward level hs hr hx => ?_⟩
  · obtain ⟨hmeans, hn⟩ := trigger_reads hcur h
    have tag : s.currentTag = some cur.tag := by rw [State.currentTag, hcur]; rfl
    refine ⟨fun hm here => ?_, fun hm away => ?_, fun m hm => ?_⟩
    · rw [takeCrossing_still hr hmode hmeans hn hramp hm, here, Bar.giveTarget_here hm, State.setBar_self]
    · rw [takeCrossing_still hr hmode hmeans hn hramp hm, Bar.giveTarget_starts hm away, distance_eq]
    · rw [takeCrossing_trigger hr hmode hmeans hn, takeCourseTarget_moving hm, State.reportBar, State.barRecord_eq, tag]
      rfl
  · intro idle
    exact if_neg fun ⟨hr, hmode⟩ => idle.elim (· hr) (· hmode)
  · intro hedge hf hh
    exact takeCrossing_untargeted (by rw [hedge, hf]; rfl) (by rw [hedge, hf, triggerNeedle, hh]; rfl)
  · have hmeans := guard_means hedge
    refine ⟨fun still => takeCrossing_guard_idle hmeans (Motion.isMoving_false still), fun m hm hr hmode => ?_⟩
    rw [takeCrossing_guard hr hmode hmeans (by rw [hm]; rfl), State.barRecord_eq]
    rfl
  · obtain ⟨node, queue, ⟨-, -, -, bar⟩, record⟩ :=
      State.takeIncrement_edge (s := s.turnAdopted forward) (level := level) hs hi hr hg he n
    rw [incrementCrossings_share (s := s.turnAdopted forward) hv hi issues he] at bar record
    obtain ⟨moves, reports⟩ := trigger_share (s := s.turnAdopted forward) he hu ho (trigger_means_if hedge)
    obtain ⟨⟨-, -, -, sameBar⟩, sameRecord⟩ := takeCrossing_sameUnit (c := ⟨n, e, crossedAngle s forward, forward⟩)
      (turnAdopted_sameUnit s forward n)
    exact ⟨_, exec_turn hs forward level, node, queue, bar.trans (moves.trans sameBar),
      fun apart => record.trans ((reports apart).trans sameRecord)⟩
  · have none := incrementCrossings_withheld (s := s.turnAdopted forward) hi h0 hf
    have hc : s.node.state ≠ .catchup := by simp [hr]
    have slips : (s.turnAdopted forward).tracker.slips forward level = false :=
      Tracker.slips_within fun hi' => absurd hi' hi
    refine ⟨_, exec_turn hs forward level, ?_⟩
    rw [State.takeIncrement_uncrossed (s := s.turnAdopted forward) hc none, State.slipPart_none slips,
      State.boundaryPart_none (s := s.turnAdopted forward) (edge_no_boundary hs hi he)]
    exact ⟨rfl, rfl, rfl, rfl⟩
  · obtain ⟨node, queue, ⟨-, -, -, bar⟩, record⟩ :=
      State.takeIncrement_edge (s := s.turnAdopted forward) (level := level) hs hi hr hg he n
    rw [incrementCrossings_share (s := s.turnAdopted forward) hv hi issues he] at bar record
    obtain ⟨⟨c, captured, first⟩, apart⟩ :=
      guard_share (s := s.turnAdopted forward) he hu ho (guard_means_if hedge) hr hmode hm
    refine ⟨_, c, exec_turn hs forward level, node, queue, record.trans captured, first, fun h => ?_⟩
    obtain ⟨noted, kept⟩ := apart h
    exact ⟨record.trans noted, bar.trans kept⟩
  · obtain ⟨u, node, bar, t, record⟩ := State.takeIncrement_late_guard (s := s.turnAdopted true) (forward := true) hv hi hr hg
      ⟨h1, h2⟩ hu ho hmode hm he h3
    have crosses := (hs.crosses_iff true level).mpr ((late_forward hi h1 (by omega)).2 hv)
    refine ⟨_, exec_turn hs true level, record, ?_⟩
    rw [t, boundaryPart_trims (s := s.turnAdopted true) crosses (by rw [node]; exact hr), Fin.getElem_fin, activateTrims_get,
      ← Fin.getElem_fin u.bars, bar]
    rfl
  · obtain ⟨u, -, bar, t, record⟩ := State.takeIncrement_late_guard (s := s.turnAdopted false) (forward := false) hv hi hr hg
      ⟨h1, h2⟩ hu ho hmode hm he h3
    refine ⟨_, exec_turn hs false level, record, ?_⟩
    rcases State.boundaryPart_bars u (s.turnAdopted false) false level with e | ⟨e, -⟩
    · rw [t, e, bar]
      rfl
    · cases e
  · have crosses : s.tracker.crosses forward level = false := by
      rw [← Bool.not_eq_true, hs.crosses_iff]
      exact hx
    obtain ⟨queue, calm, slipped⟩ := State.takeIncrement_uncrossing_node (s := s.turnAdopted forward) hr crosses
    refine ⟨_, exec_turn hs forward level, queue, fun n h => ?_, fun hv => ?_, fun hg hn => calm hg ?_, fun h => slipped ?_⟩
    · exact State.takeIncrement_uncrossing (s := s.turnAdopted forward) hr crosses h
    · have hc : s.node.state ≠ .catchup := by simp [hr]
      rw [State.takeIncrement_invalid (s := s.turnAdopted forward) hv hc]
      exact ⟨rfl, rfl, rfl⟩
    · rw [← Bool.not_eq_true]
      exact fun h => hn ((slips_iff_spelled s forward level).mp h)
    · exact (slips_iff_spelled s forward level).mpr h

end Sys2Proof.Machine


-- ==== The step on an empty queue (O2) ====
namespace Sys2Proof.Machine

/-! ### Putting due events into the queue -/

theorem insertByRank_perm (x : Nat × Instr) (l : List (Nat × Instr)) : (insertByRank x l).Perm (x :: l) := by
  induction l with
  | nil => exact List.Perm.refl _
  | cons y rest ih =>
    unfold insertByRank
    split
    · exact List.Perm.refl _
    · exact (ih.cons y).trans (List.Perm.swap x y rest)

theorem sortByRank_perm (l : List (Nat × Instr)) : (sortByRank l).Perm l := by
  induction l with
  | nil => exact List.Perm.refl _
  | cons x rest ih => exact (insertByRank_perm x _).trans (ih.cons x)

theorem ranked_events (seed k : Nat) (es : List Instr) : (ranked seed k es).map Prod.snd = es := by
  induction es generalizing k with
  | nil => rfl
  | cons e rest ih => rw [ranked, List.map_cons, ih]

/-- Whatever order is chosen, the events queued are those due (entry 3). -/
theorem dueOrder_perm (seed : Nat) (es : List Instr) : (dueOrder seed es).Perm es := by
  unfold dueOrder
  split
  · exact List.Perm.refl _
  · have sorted := (sortByRank_perm (ranked seed 0 es)).map Prod.snd
    rw [ranked_events] at sorted
    exact sorted

theorem State.queueDue_eq (s : State) (es : List Instr) :
    s.queueDue es = { s with pending := (s.queueDue es).pending, choices := (s.queueDue es).choices } := by
  unfold State.queueDue
  split <;> rfl

theorem State.queueDue_perm {s : State} (h : s.pending = []) (es : List Instr) : (s.queueDue es).pending.Perm es := by
  unfold State.queueDue
  split
  · rename_i he
    rw [h, List.isEmpty_iff.mp he]
  · show (s.pending ++ dueOrder s.choices es).Perm es
    rw [h]
    exact dueOrder_perm _ es

/-! ### Events due without any time passing -/

/-- An event that may be due, as a list. -/
theorem if_sublist (p : Prop) [Decidable p] (e : Instr) : (if p then [e] else []).Sublist [e] := by
  split
  · exact List.Sublist.refl _
  · exact List.nil_sublist _

theorem immediateDue_nodup (s : State) : (immediateDue s).Nodup := by
  have all : [Instr.indexMissing, .expansionComplete, .deferredServiceOp s.homes].Nodup := by simp
  refine List.Sublist.nodup ?_ all
  unfold immediateDue
  refine (List.Sublist.append (List.Sublist.append ?_ ?_) ?_ :
    List.Sublist _ (([Instr.indexMissing] ++ [Instr.expansionComplete]) ++ [Instr.deferredServiceOp s.homes]))
  all_goals exact if_sublist _ _

theorem State.overdue_iff (s : State) :
    s.tracker.indexOverdue = true ↔ s.tracker.angleValid = true ∧ 1449 ≤ s.tracker.sinceIndex := by
  rw [Tracker.indexOverdue, Bool.and_eq_true, decide_eq_true_iff, missingAt]

theorem expansion_complete_iff (s : State) :
    (s.expander.job.any fun j => j.todo.isEmpty) = true ↔ ∃ j, s.expander.job = some j ∧ j.todo = [] := by
  cases s.expander.job with
  | none => simp
  | some j => simp

theorem pathFree_iff (s : State) : (!s.ring.deferred.isEmpty && !s.pathOccupied) = true
    ↔ s.ring.deferred ≠ [] ∧ s.store.staging = [] ∧ s.store.read = none ∧ s.expander.job = none := by
  simp [State.pathOccupied, and_assoc]

theorem mem_if_singleton {p : Prop} [Decidable p] {a b : Instr} : (a ∈ if p then [b] else []) ↔ a = b ∧ p := by
  split
  · simp_all
  · simp_all

theorem mem_immediateDue (s : State) (e : Instr) :
    e ∈ immediateDue s ↔ (e = .indexMissing ∧ s.tracker.angleValid = true ∧ 1449 ≤ s.tracker.sinceIndex)
      ∨ (e = .expansionComplete ∧ ∃ j, s.expander.job = some j ∧ j.todo = [])
      ∨ (e = .deferredServiceOp s.homes
          ∧ s.ring.deferred ≠ [] ∧ s.store.staging = [] ∧ s.store.read = none ∧ s.expander.job = none) := by
  rw [immediateDue, List.mem_append, List.mem_append, mem_if_singleton, mem_if_singleton, mem_if_singleton,
    State.overdue_iff, expansion_complete_iff, pathFree_iff, or_assoc]

/-! ### The events at the end of a count -/

/-- The events a bar can have due. -/
def barEvents (homes : BitVec 16) (n : BarIx) : List Instr :=
  [.stepPulse n, .moveComplete n, .searchSample n homes, .stepPulseEnd n]

theorem barDue_sublist (s : State) (n : BarIx) : (barDue s n).Sublist (barEvents s.homes n) := by
  refine (List.Sublist.append ?_ (if_sublist _ _) : (barDue s n).Sublist
    ([Instr.stepPulse n, .moveComplete n, .searchSample n s.homes] ++ [Instr.stepPulseEnd n]))
  cases s.bars[n].motion with
  | still => exact List.nil_sublist _
  | moving m =>
    dsimp only
    split
    · split <;> simp
    · exact List.nil_sublist _
  | searching x =>
    dsimp only
    split
    · simp
    · exact List.nil_sublist _

theorem mem_barDue (s : State) (n : BarIx) (e : Instr) :
    e ∈ barDue s n ↔ (∃ m, s.bars[n].motion = .moving m ∧ m.left ≤ 1
          ∧ e = if m.emitted < m.steps then .stepPulse n else .moveComplete n)
      ∨ (∃ x, s.bars[n].motion = .searching x ∧ x.left ≤ 1 ∧ e = .searchSample n s.homes)
      ∨ (s.bars[n].step = true ∧ s.bars[n].pulseLeft ≤ 1 ∧ e = .stepPulseEnd n) := by
  unfold barDue
  dsimp only
  rw [List.mem_append, mem_if_singleton]
  cases s.bars[n].motion with
  | still => simp; tauto
  | moving m => simp only [mem_if_singleton]; simp; tauto
  | searching x => simp only [mem_if_singleton]; simp; tauto

/-- All events a count can bring. -/
def possibleDue (homes : BitVec 16) : List Instr :=
  [.standstillExpiry] ++ [.storeClearDone] ++ [.wordAccessComplete] ++ [.commitSwap]
    ++ (List.finRange 16).flatMap (barEvents homes) ++ [.ringSilence]

theorem possibleDue_nodup (homes : BitVec 16) : (possibleDue homes).Nodup := by
  have bars : ((List.finRange 16).flatMap (barEvents homes)).Nodup := by
    refine List.nodup_flatMap.mpr ⟨fun n _ => by simp [barEvents], (List.nodup_finRange 16).imp fun {a b} hab => ?_⟩
    intro e ha hb
    simp only [barEvents, List.mem_cons, List.not_mem_nil, or_false] at ha hb
    rcases ha with rfl | rfl | rfl | rfl <;> simp [hab] at hb
  have apart : ∀ e ∈ (List.finRange 16).flatMap (barEvents homes),
      e ∉ [Instr.standstillExpiry, .storeClearDone, .wordAccessComplete, .commitSwap] ∧ e ≠ .ringSilence := by
    intro e he
    obtain ⟨n, -, he⟩ := List.mem_flatMap.mp he
    simp only [barEvents, List.mem_cons, List.not_mem_nil, or_false] at he
    rcases he with rfl | rfl | rfl | rfl <;> simp
  rw [possibleDue, List.nodup_append, List.nodup_append]
  refine ⟨⟨by simp, bars, fun a ha b hb e => (apart b hb).1 (e ▸ ha)⟩, by simp, fun a ha b hb e => ?_⟩
  rw [List.mem_singleton.mp hb] at e
  rcases List.mem_append.mp ha with h | h
  · rw [e] at h
    simp at h
  · exact (apart a h).2 e

theorem timeDue_nodup (s : State) : (timeDue s).Nodup := by
  refine List.Sublist.nodup ?_ (possibleDue_nodup s.homes)
  unfold timeDue possibleDue
  exact ((((if_sublist _ _).append (if_sublist _ _)).append (if_sublist _ _)).append (if_sublist _ _)).append
    (List.Sublist.flatMap_right _ fun n _ => barDue_sublist s n) |>.append (if_sublist _ _)

theorem endsNow_iff (t : Option Nat) : endsNow t = true ↔ ∃ k, t = some k ∧ k ≤ 1 := by
  cases t <;> simp [endsNow]

theorem computationEnds_iff (e : Engine) :
    computationEnds e = true ↔ ∃ j k, e.commit = some j ∧ j.stage = .computing k ∧ 256 ≤ k + 1 := by
  unfold computationEnds
  cases e.commit with
  | none => simp
  | some j => cases h : j.stage <;> simp [h, computeCounts]

theorem silenceEnds_iff (t : Option Nat) :
    (t.any (silenceLimit ≤ · + 1)) = true ↔ ∃ k, t = some k ∧ 1000000 ≤ k + 1 := by
  cases t <;> simp [silenceLimit]

theorem mem_timeDue (s : State) (e : Instr) :
    e ∈ timeDue s ↔ (e = .standstillExpiry ∧ ∃ k, s.tracker.oneShot = some k ∧ k ≤ 1)
      ∨ (e = .storeClearDone ∧ s.store.state = .clearing ∧ s.store.clearLeft ≤ 1)
      ∨ (e = .wordAccessComplete ∧ s.store.access ≠ none)
      ∨ (e = .commitSwap ∧ ∃ j k, s.engine.commit = some j ∧ j.stage = .computing k ∧ 256 ≤ k + 1)
      ∨ (∃ n, e ∈ barDue s n)
      ∨ (e = .ringSilence ∧ ∃ k, s.ring.silence = some k ∧ 1000000 ≤ k + 1) := by
  have bars : e ∈ (List.finRange 16).flatMap (barDue s) ↔ ∃ n, e ∈ barDue s n := by simp
  simp only [timeDue, List.mem_append, mem_if_singleton, bars, endsNow_iff, computationEnds_iff, silenceEnds_iff,
    Option.isSome_iff_ne_none, or_assoc]

/-! ### One count -/

theorem Bar.tick_eq (b : Bar) : b.tick = { b with
    pulseLeft := b.pulseLeft - 1
    motion := match b.motion with
      | .still => .still
      | .moving m => .moving { m with left := m.left - 1 }
      | .searching x => .searching { x with left := x.left - 1 } } := by
  unfold Bar.tick
  cases h : b.motion <;> rfl

theorem Commit.tick_fetching {c : Commit} (h : c.stage = .fetching) : c.tick = c := by
  rw [Commit.tick, h]

theorem Commit.tick_computing {c : Commit} {k : Nat} (h : c.stage = .computing k) :
    c.tick = { c with
      stage := .computing (k + 1)
      shadow := if (k + 1) % 4 = 0 ∧ c.shadow.length < 64 then c.shadow ++ [moveTime c.fetched (c.shadow.length * c.spn)]
                else c.shadow } := by
  rw [Commit.tick, h]
  rfl

/-- Settles O2: the events due now without time passing, or one count and the events due at its end. -/
theorem idleStepPassesTime : Obligations.IdleStepPassesTime := by
  intro s hp overdue complete free
  have stepped : step s = .next s.idle := by rw [step, hp]
  have now : immediateDue s ≠ [] ↔ overdue ∨ complete ∨ free := by
    constructor
    · intro hne
      obtain ⟨e, he⟩ := List.exists_mem_of_ne_nil _ hne
      exact ((mem_immediateDue s e).mp he).imp And.right (Or.imp And.right And.right)
    · rintro (h | h | h)
      · exact List.ne_nil_of_mem ((mem_immediateDue s _).mpr (Or.inl ⟨rfl, h⟩))
      · exact List.ne_nil_of_mem ((mem_immediateDue s _).mpr (Or.inr (Or.inl ⟨rfl, h⟩)))
      · exact List.ne_nil_of_mem ((mem_immediateDue s _).mpr (Or.inr (Or.inr ⟨rfl, h⟩)))
  by_cases h : overdue ∨ complete ∨ free
  · have idle : s.idle = s.queueDue (immediateDue s) := by
      rw [State.idle, if_neg (by simpa using now.mpr h)]
    have queued := State.queueDue_perm hp (immediateDue s)
    refine ⟨_, stepped, ?_, fun _ => ⟨?_, fun e => ?_⟩, fun hn => absurd h hn⟩
    · rw [idle, queued.nodup_iff]
      exact immediateDue_nodup s
    · rw [idle]
      exact State.queueDue_eq _ _
    · rw [idle, queued.mem_iff]
      exact mem_immediateDue s e
  · have idle : s.idle = s.tick.queueDue (timeDue s) := by
      rw [State.idle, if_pos (List.isEmpty_iff.mpr (Classical.not_not.mp (h ∘ now.mp)))]
    have queued := State.queueDue_perm (s := s.tick) hp (timeDue s)
    have frame := State.queueDue_eq s.tick (timeDue s)
    have commit : s.idle.engine.commit = s.engine.commit.map Commit.tick := by rw [idle, frame]; rfl
    have bars : ∀ n : BarIx, s.idle.bars[n] = s.bars[n].tick := by
      intro n
      rw [idle, frame]
      exact mapBars_get s.bars Bar.tick n n.isLt
    refine ⟨_, stepped, ?_, fun hn => absurd hn h, fun _ => ⟨?_, fun n => ?_, fun hc => ?_, fun j hc hf => ?_, fun j k hc hk => ?_,
      fun e => ?_⟩⟩
    · rw [idle, queued.nodup_iff]
      exact timeDue_nodup s
    · rw [idle, frame]
      rfl
    · exact (bars n).trans s.bars[n].tick_eq
    · rw [commit, hc]
      rfl
    · rw [commit, hc, Option.map_some, Commit.tick_fetching hf]
    · rw [commit, hc, Option.map_some, Commit.tick_computing hk]
    · rw [idle, queued.mem_iff, mem_timeDue]
      rw [or_comm (a := ∃ n, e ∈ barDue s n)]
      simp only [mem_barDue, exists_or]

end Sys2Proof.Machine

-- ==== Every step keeps the store (O56) ====
namespace Sys2Proof.Machine

/-! ### Requests and grants alone (R23) -/

/-- Two stores that differ in the access in progress and in the requests waiting alone. -/
def Store.SameButRequests (a b : Store) : Prop :=
  b = { a with access := b.access, waitExpander := b.waitExpander, waitService := b.waitService, waitEngine := b.waitEngine }

theorem Store.SameButRequests.refl (a : Store) : a.SameButRequests a := rfl

theorem Store.SameButRequests.trans {a b c : Store} (hab : a.SameButRequests b) (hbc : b.SameButRequests c) :
    a.SameButRequests c := by
  cases a; cases b; cases c
  simp only [Store.SameButRequests, Store.mk.injEq, true_and] at *
  simp [hab, hbc]

theorem Store.SameButRequests.words {a b : Store} (h : a.SameButRequests b) : b.words = a.words := by rw [h]
theorem Store.SameButRequests.corrected {a b : Store} (h : a.SameButRequests b) : b.corrected = a.corrected := by rw [h]

theorem Store.sameButRequests_setWait (st : Store) (c : Client) (w : Bool) : st.SameButRequests (st.setWait c w) := by
  cases c <;> rfl

theorem State.grant_sameButRequests (s : State) : s.store.SameButRequests s.grant.store := by
  rcases s.grant_cases with h | ⟨c, a, -, -, -, -, h⟩
  · rw [h]
    exact .refl _
  · rw [h]
    exact (s.store.sameButRequests_setWait c false).trans rfl

theorem State.present_sameButRequests (s : State) (c : Client) : s.store.SameButRequests (s.present c).store :=
  (s.store.sameButRequests_setWait c true).trans (State.grant_sameButRequests _)

/-! ### Course frames ask for fetches alone (R48) -/

theorem State.beginExpansion_sameButRequests (s : State) (ticket : Nat) (f : CourseFrame) :
    s.store.SameButRequests (s.beginExpansion ticket f).store := by
  unfold State.beginExpansion
  simp only []
  split
  · exact .refl _
  · exact State.present_sameButRequests { s with expander := { s.expander with job := some (expansionOf s ticket f) } } .expander

theorem State.handOver_sameButRequests (s : State) (ticket : Nat) (f : CourseFrame) :
    s.store.SameButRequests (s.handOver ticket f).store := by
  unfold State.handOver
  split
  · exact .refl _
  · exact s.beginExpansion_sameButRequests ticket f

theorem handOverWaiting_sameButRequests (fs : List (Nat × CourseFrame)) (s : State) :
    s.store.SameButRequests (handOverWaiting fs s).store := by
  induction fs generalizing s with
  | nil => exact .refl _
  | cons e rest ih =>
    obtain ⟨ticket, f⟩ := e
    have first := s.handOver_sameButRequests ticket f
    simp only [handOverWaiting]
    split
    · exact first
    · exact first.trans (ih _)

theorem State.releaseWaiting_sameButRequests (s : State) : s.store.SameButRequests s.releaseWaiting.store := by
  unfold State.releaseWaiting
  split
  · exact .refl _
  · exact handOverWaiting_sameButRequests s.ring.waiting s

theorem State.courseFrame_sameButRequests (s : State) (f : CourseFrame) :
    s.store.SameButRequests (s.courseFrame f).store := by
  unfold State.courseFrame
  split
  · exact .refl _
  · simp only []
    split
    · exact .refl _
    · exact State.handOver_sameButRequests
        ({ s with ring := s.ring.cleanSeen }.enterFrame (cleanFrameOf (courseBody f))) s.ring.nextTicket f

/-! ### What a word access leaves of the records (R24 to R28) -/

theorem State.deliver_words_corrected (s : State) (c : Client) (o : ReadOutcome) :
    (s.deliver c o).store.words = s.store.words ∧ (s.deliver c o).store.corrected = s.store.corrected := by
  cases c
  case expander =>
    simp only [State.deliver, State.deliverExpander]
    split
    · exact ⟨rfl, rfl⟩
    · split <;> simp
  case service =>
    simp only [State.deliver, State.deliverRead]
    split
    · exact ⟨rfl, rfl⟩
    · split <;> simp
  case engine =>
    simp only [State.deliver, State.deliverEngine]
    split
    · exact ⟨rfl, rfl⟩
    · split
      · exact ⟨rfl, rfl⟩
      · split
        · exact ⟨rfl, rfl⟩
        · split <;> simp

@[simp] theorem State.deliver_words (s : State) (c : Client) (o : ReadOutcome) :
    (s.deliver c o).store.words = s.store.words := (s.deliver_words_corrected c o).1

@[simp] theorem State.deliver_corrected (s : State) (c : Client) (o : ReadOutcome) :
    (s.deliver c o).store.corrected = s.store.corrected := (s.deliver_words_corrected c o).2

@[simp] theorem State.wroteStaged_words (s : State) (a : Nat) : (s.wroteStaged a).store.words = s.store.words := by
  unfold State.wroteStaged
  simp only []
  split <;> simp

@[simp] theorem State.wroteStaged_corrected (s : State) (a : Nat) :
    (s.wroteStaged a).store.corrected = s.store.corrected := by
  unfold State.wroteStaged
  simp only []
  split <;> simp

/-! ### The invariant -/

/-- A step that writes no word and counts no correction keeps the invariant; it may zero the count (R29). -/
theorem StoreInv.of_words_eq {s t : State} (h : StoreInv s) (hw : t.store.words = s.store.words)
    (hc : t.store.corrected ≤ s.store.corrected) : StoreInv t := by
  obtain ⟨hwf, hcount⟩ := h
  exact ⟨hw ▸ hwf, hc.trans hcount⟩

theorem StoreInv.of_store_eq {s t : State} (h : StoreInv s) (e : t.store = s.store) : StoreInv t :=
  h.of_words_eq (by rw [e]) (by rw [e])

theorem StoreInv.of_sameButRequests {s t : State} (h : StoreInv s) (e : s.store.SameButRequests t.store) : StoreInv t :=
  h.of_words_eq e.words e.corrected.le

/-- A read is counted to 255 at most (R28). -/
theorem correctedAfter_le {count : Nat} (h : count ≤ 255) (o : ReadOutcome) : correctedAfter count o ≤ 255 := by
  unfold correctedAfter
  split
  · exact Nat.min_le_left _ _
  · exact h

/-- A word access inside the store keeps the invariant: a write the canonical form, a read the count's bound. -/
theorem State.finishAccess_storeInv {s : State} (h : StoreInv s) {a : Access} (ha : a.addr < storeSize) :
    StoreInv (s.finishAccess a) := by
  obtain ⟨hwf, hcount⟩ := h
  unfold State.finishAccess
  split
  case h_1 w _ =>
    have written : StoreInv { s with store := { s.store with words := s.store.words.write a.addr w } } :=
      ⟨Memory.write_wf hwf ha w, hcount⟩
    simp only []
    split
    · exact written
    · refine StoreInv.of_sameButRequests ?_ (State.releaseWaiting_sameButRequests _)
      exact written.of_words_eq (State.wroteStaged_words _ _) (State.wroteStaged_corrected _ _).le
  case h_2 =>
    split
    · exact ⟨hwf, hcount⟩
    · refine ⟨?_, ?_⟩
      · rw [State.deliver_words]
        exact hwf
      · rw [State.deliver_corrected]
        exact correctedAfter_le hcount _

/-! ### What a service operation does to the store -/

/-- The service operations whose own rule reaches the store's records (R29, R30, R32, R65, R150). -/
def reachesStore : ServiceOp → Bool
  | .load .. | .setDiagnosticCheckMode _ | .setDiagnosticCheckValue _ | .commitClass _ | .restart | .clearFault .. => true
  | _ => false

/-- Every other operation leaves the store. -/
theorem immediateOp_store {op : ServiceOp} (hop : reachesStore op = false) (data : List Word) (s : State) :
    (immediateOp op data s).1.store = s.store := by
  have rf : ∀ {r : State × Reply}, refusedBy s r → r.1.store = s.store := fun hr => by rw [hr.1]
  unfold immediateOp
  split
  · rfl
  · rename_i hcount
    clear hcount
    cases op <;> dsimp only
    case load | setDiagnosticCheckMode | setDiagnosticCheckValue | commitClass | restart | clearFault => cases hop
    case getParam => rcases opGetParam_cases _ _ s with e | ⟨_, -, e⟩; exact rf e; rw [e]
    case setRowCount bank v => rcases opSetRowCount_cases bank v s with e | ⟨_, -, e⟩; exact rf e; rw [e]; cases bank <;> rfl
    case setMargin v => rcases opSetMargin_cases v s with e | ⟨_, -, e⟩; exact rf e; rw [e]
    case setStandstillTimeout v => rcases opSetStandstillTimeout_cases v s with e | ⟨_, -, e⟩; exact rf e; rw [e]
    case setWindow w v => rcases opSetWindow_cases w v s with e | ⟨_, -, -, e⟩; exact rf e; rw [e]
    case setGuardEnable v => rcases opSetGuardEnable_cases v s with e | ⟨-, e⟩ | ⟨-, -, e⟩; exact rf e; all_goals rw [e]
    case setStepsPerNeedle b v => rcases opSetSpn_cases b v s with e | ⟨_, _, -, -, -, -, e⟩; exact rf e; rw [e]
    case setRampLength b v => rcases opSetRampLength_cases b v s with e | ⟨_, _, -, -, -, e⟩; exact rf e; rw [e]
    case setMode b v => rcases opSetMode_cases b v s with e | ⟨_, _, -, -, -, -, e⟩; exact rf e; rw [e]; rfl
    case setClass b v => rcases opSetClass_cases b v s with e | ⟨_, _, -, -, -, -, -, e⟩; exact rf e; rw [e]; rfl
    case setLapSet b v => rcases opSetLapSet_cases b v s with e | ⟨_, _, -, -, -, e⟩; exact rf e; rw [e]; rfl
    case setTravelLimit b v => rcases opSetTravelLimit_cases b v s with e | ⟨_, _, -, -, -, -, -, e⟩; exact rf e; rw [e]; rfl
    case setTrim b v => rcases opSetTrim_cases b v s with e | ⟨_, _, -, -, e⟩; exact rf e; rw [e]; rfl
    case setHomePosition b v => rcases opSetHomePosition_cases b v s with e | ⟨_, _, -, -, e⟩; exact rf e; rw [e]; rfl
    case setHomePolarity b v => rcases opSetHomePolarity_cases b v s with e | ⟨_, _, -, -, e⟩; exact rf e; rw [e]; rfl
    case arm tag => rcases opArm_cases tag s with e | ⟨-, -, -, -, e⟩; exact rf e; rw [e]; rfl
    case resume => rcases opResume_cases s with e | ⟨-, -, -, e⟩; exact rf e; rw [e, State.beginCatchup_eq]; simp
    case jog b v =>
      rcases opJog_cases b v s with e | ⟨_, _, _, -, -, -, -, -, e⟩
      · exact rf e
      · rw [e]
        unfold jogReferenced jogUnreferenced
        simp only []
        repeat' split
        all_goals rfl
    case reference b => rcases opReference_cases b s with e | ⟨_, -, -, -, -, e⟩; exact rf e; rw [e]; rfl
    case getStatus => rw [opGetStatus_state]
    case getFaults => rw [opGetFaults_state]
    all_goals rfl

/-- No service operation writes a word as it is taken, and none counts a correction (R28, R33). -/
theorem immediateOp_storeInv (op : ServiceOp) (data : List Word) (s : State) (h : StoreInv s) :
    StoreInv (immediateOp op data s).1 := by
  have rf : ∀ {r : State × Reply}, refusedBy s r → StoreInv r.1 := fun hr => by rw [hr.1]; exact h
  by_cases hd : takesNoData op = true ∧ data ≠ []
  · rw [immediateOp_withData hd.1 hd.2]
    exact h
  have none : takesNoData op = true → data = [] := fun hop => by simpa [hop] using hd
  cases op with
  | load a c =>
    rw [immediateOp_load]
    rcases opLoad_cases a c data s with e | ⟨-, e⟩
    · exact rf e
    · rw [e]
      exact StoreInv.of_sameButRequests (s := { s with store := { s.store with staging := stagedWords a.toNat data } }) h
        (State.present_sameButRequests _ _)
  | setDiagnosticCheckMode v =>
    rw [none rfl, immediateOp_setDiagnosticCheckMode]
    rcases opSetDiagMode_cases v s with e | ⟨-, -, e⟩ | ⟨-, e⟩
    · exact rf e
    all_goals
      rw [e]
      exact h
  | setDiagnosticCheckValue v =>
    rw [none rfl, immediateOp_setDiagnosticCheckValue]
    rcases opSetDiagValue_cases v s with e | ⟨_, -, e⟩
    · exact rf e
    · rw [e]
      exact h
  | commitClass c =>
    rw [none rfl, immediateOp_commitClass]
    rcases opCommitClass_cases c s with e | ⟨_, -, -, -, -, e⟩
    · exact rf e
    · rw [e]
      exact h.of_sameButRequests (State.present_sameButRequests _ _)
  | restart =>
    rw [none rfl, immediateOp_restart]
    rcases opRestart_cases s with e | ⟨-, -, e⟩
    · exact rf e
    · rw [e]
      exact h.of_words_eq rfl (Nat.zero_le _)
  | clearFault t b =>
    rw [none rfl, immediateOp_clearFault]
    rcases opClearFault_cases t b s with e | ⟨-, e⟩ | ⟨_, -, -, e⟩ | ⟨-, e⟩ | ⟨-, e⟩
    · exact rf e
    all_goals
      rw [e]
      exact h.of_words_eq rfl (by simp [Store.cleared])
  | _ => exact h.of_store_eq (immediateOp_store rfl data s)

/-- A READ that begins asks for its first word (R35). -/
theorem State.beginRead_storeInv (s : State) (start : BitVec 24) (count : Byte) (d : Deferred) (h : StoreInv s) :
    StoreInv (s.beginRead start count d) := by
  unfold State.beginRead
  simp only []
  refine StoreInv.of_sameButRequests ?_ (State.present_sameButRequests _ _)
  exact h

theorem State.takeRequest_storeInv {s : State} (h : StoreInv s) (d : Deferred) : StoreInv (s.takeRequest d) :=
  State.takeRequest_keeps (fun _ _ h => h) immediateOp_storeInv State.beginRead_storeInv h d

theorem State.serviceRequest_storeInv {s : State} (h : StoreInv s) (op : ServiceOp) (env : Envelope) :
    StoreInv (s.serviceRequest op env) :=
  State.serviceRequest_keeps (fun _ _ h => h) immediateOp_storeInv State.beginRead_storeInv h op env

/-! ### What the ring brings -/

theorem State.serviceFrame_storeInv {s : State} (h : StoreInv s) (f : ServiceFrame) : StoreInv (s.serviceFrame f) := by
  unfold State.serviceFrame
  split
  · exact h
  · split
    · exact State.serviceRequest_storeInv h _ _
    · exact h

/-- A corrupt frame reaches the store as a READ that is taken, or not at all (R179). -/
theorem State.corrupt_storeInv {s : State} (h : StoreInv s) (j : Judgement) (cs : List Byte) : StoreInv (s.corrupt j cs) := by
  unfold State.corrupt State.corruptAddressed State.takeOrDefer
  simp only []
  split
  · split
    · split
      · split
        · exact h
        · refine State.takeRequest_storeInv ?_ _
          exact h
      · exact h
    · exact h
    · split <;> exact h
  · exact h

theorem State.receive_storeInv {s : State} (h : StoreInv s) (chars : List RxChar) : StoreInv (s.receive chars) := by
  unfold State.receive
  split
  · exact h
  · split
    · exact h
    · exact h.of_sameButRequests (State.courseFrame_sameButRequests _ _)
    · exact State.serviceFrame_storeInv h _
    · exact State.corrupt_storeInv h _ _

/-! ### Every command -/

theorem execStoreClearDone_storeInv {s t : State} (h : StoreInv s) (ht : execStoreClearDone s = .next t) : StoreInv t := by
  cases ht
  split
  · exact StoreInv.of_sameButRequests (s := { s with store := { s.store with words := [], state := .ready, clearLeft := 0 } })
      ⟨rfl, h.2⟩ (State.grant_sameButRequests _)
  · exact h

theorem execWordAccessComplete_storeInv {s t : State} (h : StoreInv s) (ht : execWordAccessComplete s = .next t) :
    StoreInv t := by
  unfold execWordAccessComplete at ht
  split at ht
  · cases ht
    exact h
  · split at ht <;> cases ht
    refine StoreInv.of_sameButRequests ?_ (State.grant_sameButRequests _)
    refine State.finishAccess_storeInv ?_ (by assumption)
    exact h

theorem execExpansionComplete_storeInv {s t : State} (h : StoreInv s) (ht : execExpansionComplete s = .next t) :
    StoreInv t := by
  unfold execExpansionComplete at ht
  split at ht
  · cases ht
    exact h
  · split at ht <;> cases ht
    · refine StoreInv.of_sameButRequests ?_ (State.releaseWaiting_sameButRequests _)
      exact h.of_store_eq (by simp)
    · exact h

theorem execIncrement_storeInv {s t : State} (h : StoreInv s) (a b level : Bool)
    (ht : execIncrement a b level s = .next t) : StoreInv t := by
  have settled : StoreInv s.settleIndex :=
    (State.settleIndex_keeps (fun _ _ h => h) (fun _ _ _ h => h) (fun _ _ h => h)
      (fun s f t h => h.of_store_eq (s.boundary_store f t)) h).2
  have taken : ∀ forward, StoreInv ((s.settleIndex.adoptLevels a b).takeIncrement forward level) := fun forward =>
    State.takeIncrement_keeps (fun _ _ h => h) (fun _ _ h => h) (fun s a h => h.of_store_eq (s.disturbed_store a))
      (fun s c h => h.of_store_eq (takeCrossing_store s c)) (fun _ _ h => h) (fun s v h => h.of_store_eq (s.indexSlip_store v))
      (fun s f t h => h.of_store_eq (s.boundary_store f t)) (s := s.settleIndex.adoptLevels a b) settled forward level
  unfold execIncrement at ht
  cases ht
  split
  · exact h
  · split
    · exact h
    · exact h
    · exact taken true
    · exact taken false

theorem execDeferredServiceOp_storeInv {s t : State} (h : StoreInv s) (homes : BitVec 16)
    (ht : execDeferredServiceOp homes s = .next t) : StoreInv t := by
  unfold execDeferredServiceOp at ht
  simp only [] at ht
  split at ht
  · cases ht
    exact h
  · cases ht
    split
    · exact h
    · refine State.takeRequest_storeInv ?_ _
      exact h

/-- The events of the shaft, the classes and the bars, and the ring's status, leave the store. -/
theorem exec_event_store {i : Instr} (hi : i = .indexMissing ∨ i = .standstillExpiry ∨ i = .commitSwap
      ∨ (∃ n, i = .stepPulse n) ∨ (∃ n, i = .stepPulseEnd n) ∨ (∃ n, i = .moveComplete n)
      ∨ (∃ n homes, i = .searchSample n homes) ∨ i = .ringBreak ∨ i = .ringSilence)
    {s t : State} (ht : exec i s = .next t) : t.store = s.store := by
  rcases hi with rfl | rfl | rfl | ⟨n, rfl⟩ | ⟨n, rfl⟩ | ⟨n, rfl⟩ | ⟨n, homes, rfl⟩ | rfl | rfl
  · cases ht
    unfold State.settleIndex
    split <;> simp
  · cases ht
    split <;> rfl
  · change execCommitSwap s = .next t at ht
    unfold execCommitSwap State.rePlan at ht
    split at ht
    · cases ht; rfl
    · split at ht <;> cases ht
      · rfl
      · split <;> rfl
  · change execStepPulse n s = .next t at ht
    unfold execStepPulse at ht
    split at ht <;> cases ht
    · split <;> rfl
    · rfl
    · rfl
  · cases ht; rfl
  · change execMoveComplete n s = .next t at ht
    unfold execMoveComplete at ht
    split at ht <;> cases ht
    · split <;> simp
    · rfl
    · rfl
  · change execSearchSample n homes s = .next t at ht
    unfold execSearchSample at ht
    simp only [] at ht
    split at ht <;> cases ht
    · simp
    · rfl
    · rfl
  · cases ht
    split <;> rfl
  · cases ht
    split <;> rfl

theorem exec_storeInv {i : Instr} {s t : State} (h : StoreInv s) (ht : exec i s = .next t) : StoreInv t := by
  have service : ∀ op env, i.request = some (op, env) → StoreInv t := fun op env hreq => by
    rw [exec_request hreq] at ht
    cases ht
    exact State.serviceRequest_storeInv (s := { s with homes := i.homesSeen s.homes }) h op env
  cases i
  case powerOn => cases ht; exact ⟨rfl, Nat.zero_le _⟩
  case pinReset => cases ht; exact ⟨h.1, Nat.zero_le _⟩
  case resetEnd => cases ht; exact h
  case increment => exact execIncrement_storeInv h _ _ _ ht
  case storeClearDone => exact execStoreClearDone_storeInv h ht
  case wordAccessComplete => exact execWordAccessComplete_storeInv h ht
  case expansionComplete => exact execExpansionComplete_storeInv h ht
  case courseFrame => cases ht; exact h.of_sameButRequests (State.courseFrame_sameButRequests _ _)
  case corruptFrame => cases ht; exact State.receive_storeInv h _
  case serviceFramePass => cases ht; exact State.serviceFrame_storeInv h _
  case deferredServiceOp => exact execDeferredServiceOp_storeInv h _ ht
  case indexMissing | standstillExpiry | commitSwap | stepPulse | stepPulseEnd | moveComplete | searchSample | ringBreak
      | ringSilence => exact h.of_store_eq (exec_event_store (by simp) ht)
  all_goals exact service _ _ rfl

/-- The passing of time leaves the words and the count (R31). -/
theorem State.idle_storeInv {s : State} (h : StoreInv s) : StoreInv s.idle := by
  have queued : ∀ {u : State} es, StoreInv u → StoreInv (u.queueDue es) := fun es hu => by
    unfold State.queueDue
    split <;> exact hu
  unfold State.idle
  simp only []
  split
  · refine queued _ ?_
    exact h
  · exact queued _ h

/-- Settles O56: of all commands a word access alone writes a word or counts a correction, and the clear empties the array. -/
theorem stepKeepsStoreInv : Obligations.StepKeepsStoreInv := by
  intro s t h ht
  unfold step at ht
  split at ht
  · refine exec_storeInv ?_ ht
    exact h
  · cases ht
    exact State.idle_storeInv h

end Sys2Proof.Machine

-- ==== The arbiter (O23) ====
namespace Sys2Proof.Machine

/-! ### Grants (R23, R31) -/

/-- A store that is busy or being cleared grants nothing. -/
theorem State.grant_held {s : State} (h : s.store.access.isSome ∨ s.store.state = .clearing) : s.grant = s := by
  rw [State.grant, if_pos h]

/-- A free READY store grants the candidate's request. -/
theorem State.grant_takes {s : State} (free : s.store.access = none) (ready : s.store.state = .ready) {c : Client} {a : Access}
    (hc : s.candidate = some c) (ha : s.nextAccess c = some a) :
    s.grant = { s with store := { s.store.setWait c false with access := some a } } := by
  have h : ¬ (s.store.access.isSome ∨ s.store.state = .clearing) := by simp [free, ready]
  rw [State.grant, if_neg h, hc]
  simp only [ha]

/-- The candidate is the first client in the order of priority that waits and has an access to make. -/
theorem State.candidate_of {s : State} {c : Client} (hw : s.store.waits c = true) (ha : (s.nextAccess c).isSome = true)
    (expander : c ≠ .expander → s.store.waitExpander = false ∨ s.nextAccess .expander = none)
    (service : c = .engine → s.store.waitService = false ∨ s.nextAccess .service = none) : s.candidate = some c := by
  have idle : ∀ d, s.store.waits d = false ∨ s.nextAccess d = none → (s.store.waits d && (s.nextAccess d).isSome) = false := by
    rintro d (h | h) <;> simp [h]
  unfold State.candidate priority
  cases c
  case expander => rw [List.find?_cons_of_pos (by simp [hw, ha])]
  case service =>
    rw [List.find?_cons_of_neg (by simp only [idle .expander (expander nofun)]; simp),
      List.find?_cons_of_pos (by simp [hw, ha])]
  case engine =>
    rw [List.find?_cons_of_neg (by simp only [idle .expander (expander nofun)]; simp),
      List.find?_cons_of_neg (by simp only [idle .service (service rfl)]; simp),
      List.find?_cons_of_pos (by simp [hw, ha])]

/-- What a client asks for does not depend on who waits. -/
@[simp] theorem State.nextAccess_setWait (s : State) (c d : Client) (w : Bool) :
    State.nextAccess { s with store := s.store.setWait d w } c = s.nextAccess c := by
  cases d <;> cases c <;> rfl

@[simp] theorem Store.waits_setWait (st : Store) (c : Client) (w : Bool) : (st.setWait c w).waits c = w := by
  cases c <;> rfl

theorem Store.waits_setWait_of_ne (st : Store) {c d : Client} (h : d ≠ c) (w : Bool) :
    (st.setWait c w).waits d = st.waits d := by
  cases c <;> cases d <;> simp [Store.waits, Store.setWait] at h ⊢

/-- A request withdrawn as it was made leaves a client that did not wait as it was. -/
theorem Store.setWait_setWait_idle {st : Store} {c : Client} (h : st.waits c = false) (w : Bool) :
    (st.setWait c w).setWait c false = st := by
  cases st
  cases c <;> simp only [Store.waits] at h <;> subst h <;> rfl

/-- A request presented to a free store with none waiting is granted at once (R23). -/
theorem State.present_granted {s : State} (free : s.store.access = none) (ready : s.store.state = .ready)
    (alone : ∀ d, s.store.waits d = false) {c : Client} {a : Access} (ha : s.nextAccess c = some a) :
    s.present c = { s with store := { s.store with access := some a } } := by
  have others : ∀ d, d ≠ c → (s.store.setWait c true).waits d = false := fun d hd => by
    rw [Store.waits_setWait_of_ne _ hd, alone d]
  have candidate : State.candidate { s with store := s.store.setWait c true } = some c :=
    State.candidate_of (by simp) (by simp [ha]) (fun h => Or.inl (others .expander h.symm))
      (fun h => Or.inl (others .service (by rw [h]; nofun)))
  rw [State.present, State.grant_takes (by simpa using free) (by simpa using ready) candidate (by simpa using ha)]
  simp only [Store.setWait_setWait_idle (alone c)]

/-! ### What a client asks for (R33, R35, R48, R66) -/

theorem State.nextAccess_expander {s : State} {j : Expansion} (h : s.expander.job = some j) :
    s.nextAccess .expander = j.todo.head?.map fun f => ⟨.expander, j.fetchAddr f, none, false⟩ := by
  simp [State.nextAccess, h]

theorem State.nextAccess_expander_none {s : State} (h : s.expander.job = none) : s.nextAccess .expander = none := by
  simp [State.nextAccess, h]

theorem State.nextAccess_staged {s : State} {addr : Nat} {d : Word} {rest : List (Nat × Word)}
    (h : s.store.staging = (addr, d) :: rest) :
    s.nextAccess .service = some ⟨.service, addr, some (s.store.loadBits d), false⟩ := by
  simp [State.nextAccess, h]

theorem State.nextAccess_read {s : State} (h : s.store.staging = []) :
    s.nextAccess .service = s.store.read.map fun r => ⟨.service, r.start + r.words.length, none, false⟩ := by
  simp [State.nextAccess, h]

theorem State.nextAccess_engine (s : State) :
    s.nextAccess .engine = s.engine.commit.map fun c => ⟨.engine, rampAddr c.cls c.fetched.length, none, false⟩ := rfl

theorem hiByte_toNat (w : Word) : (hiByte w).toNat = w.toNat / 256 := by
  have := w.isLt
  simp only [hiByte, BitVec.extractLsb'_toNat, Nat.shiftRight_eq_div_pow]
  omega

theorem loByte_toNat (w : Word) : (loByte w).toNat = w.toNat % 256 := by
  simp [loByte, BitVec.extractLsb'_toNat]

/-- The lap code of a bar (R39, R189). -/
theorem lapCode_toNat (w : Word) (n : BarIx) :
    (lapCode w n).toNat = if n.val % 2 = 0 then w.toNat / 256 else w.toNat % 256 := by
  unfold lapCode
  split
  · exact hiByte_toNat w
  · exact loByte_toNat w

/-! ### The end of the clear (R31) -/

/-- The store with every word written as 0, READY. -/
def Store.clearDone (st : Store) : Store := { st with words := [], state := .ready, clearLeft := 0 }

theorem exec_storeClearDone {s : State} (h : s.store.state = .clearing) :
    exec .storeClearDone s = .next (State.grant { s with store := s.store.clearDone }) := by
  show execStoreClearDone s = _
  rw [execStoreClearDone, if_pos h]
  rfl

/-- A grant changes the store alone. -/
theorem State.grant_eq (s : State) : s.grant = { s with store := s.grant.store } := by
  rcases s.grant_cases with h | ⟨c, a, -, -, -, -, h⟩ <;> rw [h]

/-- The all-zero word reads clean (R31). -/
theorem readOutcome_zero : (readOutcome 0).severity = none := by decide

/-! ### The obligation -/

/-- Settles O23: the arbiter takes the first in the order of priority, and each client's next access is read from its job. -/
theorem arbiterPriority : Obligations.ArbiterPriority := by
  refine ⟨fun s h => State.grant_held h, fun s a free ready hw ha => ?_, fun s a free ready hx hw ha => ?_,
    fun s a free ready hx hs hw ha => ?_, fun s c a free ready hx hs he ha => ?_, fun s j hj => ⟨?_, ?_, ?_⟩,
    fun s => ⟨?_, ?_, ?_, ?_, State.nextAccess_expander_none, ?_⟩, fun s h => ?_⟩
  · exact State.grant_takes free ready (c := .expander) (State.candidate_of hw (by simp [ha]) nofun nofun) ha
  · exact State.grant_takes free ready (c := .service)
      (State.candidate_of hw (by simp [ha]) (fun _ => Or.inl hx) nofun) ha
  · exact State.grant_takes free ready (c := .engine)
      (State.candidate_of hw (by simp [ha]) (fun _ => Or.inl hx) (fun _ => Or.inl hs)) ha
  · exact State.present_granted free ready (fun d => by cases d <;> assumption) ha
  · intro k rest htodo
    rw [State.nextAccess_expander hj, htodo]
    rfl
  · intro n rest htodo
    rw [State.nextAccess_expander hj, htodo, ← lapCode_toNat]
    rfl
  · intro htodo
    rw [State.nextAccess_expander hj, htodo]
    rfl
  · intro addr d rest hstaged
    rw [State.nextAccess_staged hstaged]
    unfold Store.loadBits storedOf storedWith
    split <;> rfl
  · intro r hstaged hr
    rw [State.nextAccess_read hstaged, hr]
    rfl
  · intro hstaged hr
    rw [State.nextAccess_read hstaged, hr]
    rfl
  · intro j hj
    rw [State.nextAccess_engine, hj]
    rfl
  · intro hj
    rw [State.nextAccess_engine, hj]
    rfl
  · have words : (State.grant { s with store := s.store.clearDone }).store.words = [] := by simp [Store.clearDone]
    refine ⟨_, exec_storeClearDone h, ?_, State.grant_eq _, ?_, ?_, ?_, ?_, ?_, ?_, ?_, ?_, ?_⟩
    · rw [words]
      rfl
    · simp [Store.clearDone]
    · intro addr
      rw [words]
      rfl
    · intro addr
      rw [words]
      exact readOutcome_zero
    all_goals simp [Store.clearDone]

end Sys2Proof.Machine

-- ==== The check code (O26) ====
namespace Sys2Proof.Machine

/-! ### Exclusive-or of bits -/

/-- The exclusive-or of a list's bits is linear in the bits. -/
theorem foldl_bne_xor (places : List Nat) (f g : Nat → Bool) (p q : Bool) :
    places.foldl (fun b i => b != (f i ^^ g i)) (p ^^ q)
      = (places.foldl (fun b i => b != f i) p ^^ places.foldl (fun b i => b != g i) q) := by
  induction places generalizing p q with
  | nil => rfl
  | cons i rest ih =>
    have step : ((p ^^ q) != (f i ^^ g i)) = ((p != f i) ^^ (q != g i)) := by
      cases p <;> cases q <;> cases f i <;> cases g i <;> rfl
    simp only [List.foldl_cons, step, ih]

/-- The value the exclusive-or starts from is one more term. -/
theorem foldl_bne_start (places : List Nat) (f : Nat → Bool) (p : Bool) :
    places.foldl (fun b i => b != f i) p = (p ^^ places.foldl (fun b i => b != f i) false) := by
  induction places generalizing p with
  | nil => simp
  | cons i rest ih =>
    rw [List.foldl_cons, List.foldl_cons, ih (p != f i), ih (false != f i)]
    cases p <;> cases f i <;> simp

theorem xorBits_xor (a b : Word) (places : List Nat) : xorBits (a ^^^ b) places = (xorBits a places ^^ xorBits b places) := by
  simpa [xorBits] using foldl_bne_xor places a.getLsbD b.getLsbD false false

theorem parity_xor {n : Nat} (a b : BitVec n) : parity (a ^^^ b) = (parity a ^^ parity b) := by
  simpa [parity] using foldl_bne_xor (List.range n) a.getLsbD b.getLsbD false false

theorem parity_ofBool (b : Bool) : parity (BitVec.ofBool b) = b := by cases b <;> rfl

/-- The parity of two words side by side is that of both. -/
theorem parity_append {n m : Nat} (a : BitVec n) (b : BitVec m) : parity (a ++ b) = (parity b ^^ parity a) := by
  have low : (List.range m).foldl (fun p i => p != (a ++ b).getLsbD i) false = parity b := by
    unfold parity
    refine List.foldl_ext _ _ _ fun p i hi => ?_
    rw [BitVec.getLsbD_append, if_pos (List.mem_range.mp hi)]
  have high : ∀ p, (List.range n).foldl (fun p i => p != (a ++ b).getLsbD (m + i)) p = (p ^^ parity a) := by
    intro p
    simp only [BitVec.getLsbD_append, Nat.not_lt.mpr (Nat.le_add_right m _), if_false, Nat.add_sub_cancel_left]
    exact foldl_bne_start _ _ _
  have places : List.range (n + m) = List.range m ++ (List.range n).map (m + ·) := by rw [Nat.add_comm, List.range_add]
  rw [parity, places, List.foldl_append, List.foldl_map, low, high]

/-! ### The syndrome (R20, R21) -/

theorem ofBool_xor (a b : Bool) : BitVec.ofBool (a ^^ b) = BitVec.ofBool a ^^^ BitVec.ofBool b := by
  cases a <;> cases b <;> rfl

theorem lowChecks_xor (a b : Word) : lowChecks (a ^^^ b) = lowChecks a ^^^ lowChecks b := by
  simp only [lowChecks, check0, check1, check2, check3, check4, xorBits_xor, ofBool_xor, ← BitVec.xor_append]

theorem dataOf_xor (a b : Stored) : dataOf (a ^^^ b) = dataOf a ^^^ dataOf b := BitVec.extractLsb'_xor

theorem syndromeOf_xor (a b : Stored) : syndromeOf (a ^^^ b) = syndromeOf a ^^^ syndromeOf b := by
  simp only [syndromeOf, dataOf_xor, lowChecks_xor, storedChecks, BitVec.extractLsb'_xor]
  ac_rfl

theorem dataOf_storedOf (d : Word) : dataOf (storedOf d) = d := BitVec.extractLsb'_append_eq_right

/-- A word with computed check bits has syndrome 0 (R21). -/
theorem syndromeOf_storedOf (d : Word) : syndromeOf (storedOf d) = 0#5 := by
  have checks : storedChecks (storedOf d) = checkBits d := BitVec.extractLsb'_append_eq_left
  have low : (checkBits d).extractLsb' 0 5 = lowChecks d := BitVec.extractLsb'_append_eq_right
  rw [syndromeOf, dataOf_storedOf, checks, low, BitVec.xor_self]

/-- A word with computed check bits has even parity (R20). -/
theorem parity_storedOf (d : Word) : parity (storedOf d) = false := by
  rw [storedOf, storedWith, parity_append, checkBits, parity_append, parity_ofBool]
  cases parity d <;> cases parity (lowChecks d) <;> rfl

/-! ### Errors (R21) -/

/-- With bits in error the syndrome is that of the error. -/
theorem syndromeOf_error (d : Word) (e : Stored) : syndromeOf (storedOf d ^^^ e) = syndromeOf e := by
  rw [syndromeOf_xor, syndromeOf_storedOf, BitVec.zero_xor]

/-- With bits in error the parity is that of the error. -/
theorem parity_error (d : Word) (e : Stored) : parity (storedOf d ^^^ e) = parity e := by
  rw [parity_xor, parity_storedOf, Bool.false_xor]

/-- What a read finds of a word in error is what it finds of the error alone (R21). -/
theorem readOutcome_error (d : Word) (e : Stored) :
    readOutcome (storedOf d ^^^ e) = { readOutcome e with data := d ^^^ (readOutcome e).data } := by
  have data : dataOf (storedOf d ^^^ e) = d ^^^ dataOf e := by rw [dataOf_xor, dataOf_storedOf]
  unfold readOutcome
  simp only [syndromeOf_error, parity_error, data]
  split
  · split <;> rfl
  · split
    · rw [BitVec.xor_assoc]
    · split <;> rfl

/-- Each single bit is found correctable, and corrected to no error. -/
theorem readOutcome_oneBit : ∀ i < 22, (readOutcome (BitVec.twoPow 22 i)).severity = some .correctable
    ∧ (readOutcome (BitVec.twoPow 22 i)).data = 0#16 := by decide +kernel

/-- Each two bits are found uncorrectable. -/
theorem readOutcome_twoBits : ∀ i < 22, ∀ j < 22, i ≠ j →
    (readOutcome (BitVec.twoPow 22 i ^^^ BitVec.twoPow 22 j)).severity = some .uncorrectable := by decide +kernel

/-- Settles O26: the check code is linear, so its claims are about the 22 errors of one bit and their pairs alone. -/
theorem checkCodeFindsErrors : Obligations.CheckCodeFindsErrors := by
  refine ⟨fun d => ?_, fun d i hi => ?_, fun d i j hi hj hij => ?_⟩
  · have clean := readOutcome_error d 0#22
    rw [BitVec.xor_zero] at clean
    rw [clean]
    exact ⟨readOutcome_zero, BitVec.xor_zero⟩
  · obtain ⟨severity, data⟩ := readOutcome_oneBit i hi
    rw [readOutcome_error, data]
    exact ⟨severity, BitVec.xor_zero⟩
  · rw [BitVec.xor_assoc, readOutcome_error]
    exact readOutcome_twoBits i hi j hj hij

end Sys2Proof.Machine

-- ==== Word accesses completed (O24, O25, O27, O28) ====
namespace Sys2Proof.Machine

/-! ### A write of a LOAD (R33, R58) -/

/-- No course frame is handed over where none waits, or where an expansion would have to wait. -/
theorem State.releaseWaiting_idle {s : State} (h : s.ring.waiting = [] ∨ s.expansionWaits = true) : s.releaseWaiting = s := by
  unfold State.releaseWaiting
  split
  · rfl
  · next free =>
    have none : s.ring.waiting = [] := h.resolve_right free
    have same : { s.ring with waiting := [] } = s.ring := by rw [← none]
    rw [none, handOverWaiting, same]

/-- The state once a staged word has been written, before what waited is handed over (R33, R34). -/
def State.afterWrite (s : State) (addr : Nat) (w : Stored) : State :=
  { s with
    store := { s.store with
      words := s.store.words.write addr w
      staging := s.store.staging.drop 1
      access := none
      waitService := s.store.waitService || decide (2 ≤ s.store.staging.length) }
    engine := s.engine.toldOfWrite addr }

theorem exec_wordAccessComplete {s : State} {a : Access} (h : s.store.access = some a) (ha : a.addr < 66688) :
    exec .wordAccessComplete s = .next (State.finishAccess { s with store := { s.store with access := none } } a).grant := by
  show execWordAccessComplete s = _
  rw [execWordAccessComplete, h]
  exact if_pos ha

/-- The completion of a LOAD's write. -/
theorem exec_write {s : State} {addr : Nat} {w : Stored} (ha : addr < 66688)
    (h : s.store.access = some { client := .service, addr := addr, write := some w, orphan := false }) :
    exec .wordAccessComplete s = .next (s.afterWrite addr w).releaseWaiting.grant := by
  have more : ∀ {st : Store}, st.staging = s.store.staging.drop 1 → st.waitService = s.store.waitService →
      (if st.staging.isEmpty then st else st.setWait .service true)
        = { st with waitService := s.store.waitService || decide (2 ≤ s.store.staging.length) } := by
    intro st hstaging hwait
    have empty : st.staging.isEmpty = true ↔ ¬ 2 ≤ s.store.staging.length := by
      rw [hstaging, List.isEmpty_iff, List.drop_eq_nil_iff]
      omega
    split
    · next he => simp [empty.mp he, ← hwait]
    · next he => simp [not_not.mp (mt empty.mpr he), Store.setWait]
  rw [exec_wordAccessComplete h ha]
  have wrote := more (st := { s.store with access := none, words := s.store.words.write addr w,
                                           staging := s.store.staging.drop 1 }) rfl rfl
  unfold State.afterWrite
  simp only [State.finishAccess, State.wroteStaged, Bool.false_eq_true, if_false, wrote]

theorem rampClassOf_some {addr : Nat} {c : ClassIx} :
    rampClassOf addr = some c ↔ 66560 + 32 * c.val ≤ addr ∧ addr < 66560 + 32 * c.val + 32 := by
  have hc := c.isLt
  unfold rampClassOf rampBase
  split
  · simp only [Option.some.injEq, Fin.ext_iff]
    omega
  · simp only [reduceCtorEq, false_iff]
    omega

/-- A class that is told of a write: VALID becomes STALE where its ramp region holds the word (R58). -/
theorem Engine.toldOfWrite_class (e : Engine) (addr : Nat) (c : ClassIx) :
    (e.toldOfWrite addr).classes[c]
      = if 66560 + 32 * c.val ≤ addr ∧ addr < 66560 + 32 * c.val + 32 ∧ e.classes[c].state = .valid
        then { e.classes[c] with state := .stale } else e.classes[c] := by
  have holds : (66560 + 32 * c.val ≤ addr ∧ addr < 66560 + 32 * c.val + 32 ∧ e.classes[c].state = .valid)
      ↔ rampClassOf addr = some c ∧ e.classes[c].state = .valid := by
    rw [rampClassOf_some, and_assoc]
  simp only [holds]
  unfold Engine.toldOfWrite
  cases hr : rampClassOf addr with
  | none => simp
  | some d =>
    by_cases hd : d = c
    · subst hd
      simp [Engine.setClass, DriveClass.outdated]
    · have : d.val ≠ c.val := fun e => hd (Fin.ext e)
      simp [Engine.setClass, hd, this]

theorem Engine.toldOfWrite_eq (e : Engine) (addr : Nat) :
    e.toldOfWrite addr = { e with classes := (e.toldOfWrite addr).classes } := by
  unfold Engine.toldOfWrite
  split <;> rfl

/-- Settles O24: a LOAD's write through the write rule of the word array, and the fault outside it. -/
theorem loadWordWritten : Obligations.LoadWordWritten := by
  refine ⟨fun s addr w hwf haddr hwait h => ?_, fun s a h ha => ?_⟩
  · have waits : (s.afterWrite addr w).ring.waiting = [] ∨ (s.afterWrite addr w).expansionWaits = true := by
      rcases hwait with none | more | job
      · exact Or.inl none
      · refine Or.inr (Bool.or_eq_true_iff.mpr (Or.inr ?_))
        have : s.store.staging.drop 1 ≠ [] := by
          rw [Ne, List.drop_eq_nil_iff]
          omega
        simpa [State.afterWrite] using this
      · exact Or.inr (Bool.or_eq_true_iff.mpr (Or.inl (Option.isSome_iff_ne_none.mpr job)))
    have done := exec_write haddr h
    rw [State.releaseWaiting_idle waits] at done
    have words : (s.afterWrite addr w).grant.store.words = s.store.words.write addr w := by simp [State.afterWrite]
    have engine : (s.afterWrite addr w).grant.engine = s.engine.toldOfWrite addr := by simp [State.afterWrite]
    refine ⟨_, done, ?_, ?_, ?_, ?_, ?_, ?_, ?_, ?_, ?_⟩
    · rw [words, engine, ← Engine.toldOfWrite_eq]
      rfl
    · rw [words, Memory.read_write_same hwf]
    · intro x hx
      rw [words, Memory.read_write_other _ hx]
    · simp [State.afterWrite]
    · simp [State.afterWrite]
    · simp [State.afterWrite]
    · intro c
      rw [engine, Engine.toldOfWrite_class]
    · rw [engine, Engine.toldOfWrite_eq]
    · simp [State.afterWrite]
  · show execWordAccessComplete s = _
    rw [execWordAccessComplete, h]
    exact if_neg (Nat.not_lt.mpr ha)

/-! ### A word read (R24 to R28) -/

/-- The state once a word has been read and reported, before it is delivered (R27, R28). -/
def State.afterRead (s : State) (kind : CaptureKind) (addr : Nat) (o : ReadOutcome) : State :=
  { s with store := { s.store with
      access := none
      capture := captureReport s.store.capture kind addr o
      corrected := correctedAfter s.store.corrected o } }

/-- The completion of a read. -/
theorem exec_read {s : State} {c : Client} {addr : Nat} (ha : addr < 66688)
    (h : s.store.access = some { client := c, addr := addr, write := none, orphan := false }) :
    exec .wordAccessComplete s = .next
      ((s.afterRead (captureKindOf c) addr (readOutcome (s.store.words.read addr))).deliver c
        (readOutcome (s.store.words.read addr))).grant :=
  exec_wordAccessComplete h ha

/-! ### READ (R26, R35) -/

/-- A word delivered to the READ in progress: it joins the reply, and the next is presented or the reply is sent. -/
theorem State.deliverRead_eq {s : State} {r : ReadJob} (h : s.store.read = some r) (o : ReadOutcome) :
    s.deliverRead o = { s with
      store := { s.store with
        read := if r.words.length + 1 < r.count then some (r.word o) else none
        waitService := s.store.waitService || decide (r.words.length + 1 < r.count) }
      ring := if r.words.length + 1 < r.count then s.ring
        else s.ring.release r.ticket ((r.word o).reply.chars r.form s.ring.address r.op r.env) } := by
  have length : (r.word o).words.length = r.words.length + 1 := by simp [ReadJob.word]
  have count : (r.word o).count = r.count := rfl
  unfold State.deliverRead
  simp only [h, length, count]
  by_cases hmore : r.words.length + 1 < r.count
  · simp [hmore, Store.setWait]
  · simp only [hmore, if_false, decide_false, Bool.or_false]
    rfl

theorem captureReport_clean {o : ReadOutcome} (h : o.severity = none) (held : Option Capture) (kind : CaptureKind)
    (addr : Nat) : captureReport held kind addr o = held := by
  rw [captureReport, h]

theorem captureReport_empty {o : ReadOutcome} {sev : Severity} (h : o.severity = some sev) (kind : CaptureKind) (addr : Nat) :
    captureReport none kind addr o = some ⟨kind, addr, o.syndrome, o.parity, sev, false⟩ := by
  rw [captureReport, h]

theorem captureReport_replaces {o : ReadOutcome} (h : o.severity = some .uncorrectable) {c : Capture}
    (hc : c.severity = .correctable) (kind : CaptureKind) (addr : Nat) :
    captureReport (some c) kind addr o = some ⟨kind, addr, o.syndrome, o.parity, .uncorrectable, true⟩ := by
  simp only [captureReport, h]
  exact if_pos ⟨hc, trivial⟩

theorem captureReport_repeats {o : ReadOutcome} {sev : Severity} (h : o.severity = some sev) {c : Capture}
    (hc : c.severity = .uncorrectable ∨ sev = .correctable) (kind : CaptureKind) (addr : Nat) :
    captureReport (some c) kind addr o = some { c with repeated := true } := by
  simp only [captureReport, h]
  refine if_neg ?_
  rintro ⟨hcor, hunc⟩
  rcases hc with hc | hc
  · rw [hcor] at hc
    cases hc
  · rw [hunc] at hc
    cases hc

/-- Settles O25: the capture record by its cases, and a READ's word through the rule of its delivery. -/
theorem readWordDelivered : Obligations.ReadWordDelivered := by
  refine ⟨fun held kind addr o => ⟨fun h => captureReport_clean h held kind addr, fun sev h => ⟨?_, ?_, ?_⟩⟩, ?_⟩
  · rintro rfl
    exact captureReport_empty h kind addr
  · rintro c rfl hc rfl
    exact captureReport_replaces h hc kind addr
  · rintro c rfl hc
    exact captureReport_repeats h hc kind addr
  · intro s addr r haddr h hr o bad
    have done := exec_read haddr h
    rw [State.deliver, State.deliverRead_eq (s := s.afterRead _ _ _) hr] at done
    refine ⟨_, done, ?granted, ?_, ?_, ?_, ?_, ?_, ?_, ?_, ?_, ?_, ?_, ?_, ?more, ?last⟩
    case granted =>
      simp only [State.grant_capture, State.grant_corrected, State.grant_storeRead, State.grant_ring]
      rfl
    case more =>
      intro hmore
      simp only [State.grant_storeRead, State.grant_ring, if_pos hmore]
      refine ⟨?_, rfl⟩
      simp only [ReadJob.word, Option.isNone_iff_eq_none]
      rfl
    case last =>
      intro hlast
      simp only [State.grant_storeRead, State.grant_ring, if_neg (Nat.not_lt.mpr hlast)]
      refine ⟨trivial, ?_⟩
      simp only [ReadJob.word, ReadJob.reply, Option.isNone_iff_eq_none]
      rfl
    all_goals simp [State.afterRead, captureKindOf, correctedAfter, o]

/-! ### The class engine's fetches (R25, R59, R66, R68) -/

/-- An uncorrectable ramp word ends the commit (R68). -/
theorem State.deliverEngine_failed {s : State} {j : Commit} (h : s.engine.commit = some j) (hj : j.stage = .fetching)
    {o : ReadOutcome} (ho : o.severity = some .uncorrectable) :
    s.deliverEngine o = { s with engine := s.engine.commitFailed j } := by
  simp only [State.deliverEngine, h, hj, ho]
  rfl

theorem Commit.fetchedEntry_stage (j : Commit) (d : Word) :
    (j.fetchedEntry d).stage = if j.length ≤ j.fetched.length + 1 then .computing 0 else .fetching := by
  simp [Commit.fetchedEntry]

/-- Any other ramp word is taken, and the next fetch presented, if one is left (R59, R66). -/
theorem State.deliverEngine_taken {s : State} {j : Commit} (h : s.engine.commit = some j) (hj : j.stage = .fetching)
    {o : ReadOutcome} (ho : o.severity ≠ some .uncorrectable) :
    s.deliverEngine o = { s with
      engine := { s.engine with commit := some (j.fetchedEntry o.data) }
      store := { s.store with waitEngine := s.store.waitEngine || decide (j.fetched.length + 1 < j.length) } } := by
  simp only [State.deliverEngine, h, hj, ho, Commit.fetchedEntry_stage]
  by_cases hmore : j.fetched.length + 1 < j.length
  · simp [hmore, Nat.not_le.mpr hmore, Store.setWait]
  · simp [hmore, Nat.not_lt.mp hmore]

/-! ### The expander's fetches (R24, R40, R50 to R52) -/

/-- A word delivered to the expander; it presents its next fetch, if one is left. -/
theorem State.deliverExpander_eq {s : State} {j : Expansion} (h : s.expander.job = some j) (o : ReadOutcome) :
    s.deliverExpander o = { s with
      expander := { s.expander with job := some (j.fetched o) }
      store := { s.store with waitExpander := s.store.waitExpander || !(j.fetched o).todo.isEmpty } } := by
  simp only [State.deliverExpander, h]
  split
  · next he => simp [he]
  · next he => simp [he, Store.setWait]

/-- What a fetch leaves of what the expansion took at its beginning. -/
theorem Expansion.fetched_kept (j : Expansion) (o : ReadOutcome) :
    (j.fetched o).frame = j.frame ∧ (j.fetched o).bank = j.bank ∧ (j.fetched o).ticket = j.ticket := by
  unfold Expansion.fetched
  simp only []
  split
  · exact ⟨rfl, rfl, rfl⟩
  · split <;> exact ⟨rfl, rfl, rfl⟩

theorem Expansion.fetched_ecc {o : ReadOutcome} (ho : o.severity = some .uncorrectable) (j : Expansion) :
    j.fetched o = { j with ecc := true, todo := [] } := if_pos ho

theorem Expansion.fetched_taken {o : ReadOutcome} (ho : o.severity ≠ some .uncorrectable) (j : Expansion) :
    (j.fetched o).ecc = j.ecc ∧ (j.fetched o).todo = j.todo.drop 1
      ∧ (j.fetched o).corrected = (j.corrected || decide (o.severity = some .correctable)) := by
  unfold Expansion.fetched
  rw [if_neg ho, ← beq_eq_decide]
  simp only []
  split <;> exact ⟨rfl, rfl, rfl⟩

theorem Expansion.fetched_rowWord {o : ReadOutcome} (ho : o.severity ≠ some .uncorrectable) {j : Expansion} {k : Fin 8}
    {rest : List Fetch} (h : j.todo = .rowWord k :: rest) : (j.fetched o).rowWord = o.data ∧ (j.fetched o).plans = j.plans := by
  simp only [Expansion.fetched, if_neg ho, h]
  exact ⟨trivial, trivial⟩

theorem Expansion.fetched_lapEntry {o : ReadOutcome} (ho : o.severity ≠ some .uncorrectable) {j : Expansion} {b : BarIx}
    {rest : List Fetch} (h : j.todo = .lapEntry b :: rest) :
    (j.fetched o).plans = j.plans.set b (entryPlan o.data j.limits[b]) := by
  simp only [Expansion.fetched, if_neg ho, h]

theorem entryLead_eq (w : Word) : entryLead w = w.toNat % 64 := by
  simp [entryLead, BitVec.extractLsb'_toNat]

theorem entryTrail_eq (w : Word) : entryTrail w = w.toNat / 64 % 64 := by
  simp [entryTrail, BitVec.extractLsb'_toNat, Nat.shiftRight_eq_div_pow]

theorem entryPlan_stand {w : Word} (h : w.getLsbD 15 = true) (limit : Nat) : entryPlan w limit = standPlan := if_pos h

theorem entryPlan_table {w : Word} (h : w.getLsbD 15 = false) (limit : Nat) :
    entryPlan w limit = clampedPlan .table (w.toNat % 64) (w.toNat / 64 % 64) limit := by
  have : ¬ entryStand w = true := by rw [entryStand, h]; nofun
  rw [entryPlan, if_neg this, entryLead_eq, entryTrail_eq]

theorem clampedPlan_clamped (source : Source) (lead trail limit : Nat) :
    (clampedPlan source lead trail limit).clamped = true ↔ limit < lead ∨ limit < trail := by
  simp [clampedPlan]

/-! ### The obligation -/

/-- Settles O27: a fetch's delivery to the engine by its outcome, and to the expander by its outcome and the fetch it was. -/
theorem fetchDelivered : Obligations.FetchDelivered := by
  intro s addr haddr o count
  refine ⟨fun j h hj hstage => ?_, fun j h hj => ?_⟩
  · have done := exec_read haddr h
    by_cases ho : o.severity = some .uncorrectable
    · rw [State.deliver, State.deliverEngine_failed (s := s.afterRead _ _ _) hj hstage ho] at done
      refine ⟨_, done, ?granted, ?_, ?_, ?_, ?_, ?_, ?_, ?_, ?_, ?_, ?_, fun _ => ⟨?_, ?_⟩, fun hn => absurd ho hn⟩
      case granted =>
        simp only [State.grant_capture, State.grant_corrected, State.grant_engine, ho, ne_eq, not_true_eq_false, false_and,
          decide_false, Bool.or_false]
        rfl
      all_goals simp [State.afterRead, captureKindOf, correctedAfter, Engine.commitFailed, Engine.setClass, o, count]
    · rw [State.deliver, State.deliverEngine_taken (s := s.afterRead _ _ _) hj hstage ho] at done
      refine ⟨_, done, ?granted, ?_, ?_, ?_, ?_, ?_, ?_, ?_, ?_, ?_, ?_, fun hy => absurd hy ho, fun _ => ⟨?_, ?_⟩⟩
      case granted =>
        simp only [State.grant_capture, State.grant_corrected, State.grant_engine, ho, ne_eq, not_false_eq_true, true_and]
        rfl
      all_goals
        simp [State.afterRead, captureKindOf, correctedAfter, Commit.fetchedEntry, clampEntry, o, count]
  · have done := exec_read haddr h
    rw [State.deliver, State.deliverExpander_eq (s := s.afterRead _ _ _) hj] at done
    obtain ⟨frame, bank, ticket⟩ := j.fetched_kept o
    refine ⟨_, j.fetched o, done, ?granted, ?_, ?_, ?_, ?_, ?_, ?_, ?_, ?_, ?_, ?_, ?_, frame, bank, ticket, ?ecc, ?taken⟩
    case granted =>
      simp only [State.grant_capture, State.grant_corrected, State.grant_expander]
      rfl
    case ecc =>
      intro ho
      rw [Expansion.fetched_ecc ho]
      exact ⟨rfl, rfl, rfl⟩
    case taken =>
      intro ho
      obtain ⟨ecc, todo, corrected⟩ := Expansion.fetched_taken ho j
      refine ⟨ecc, todo, corrected, fun _ _ => Expansion.fetched_rowWord ho, fun b rest htodo => ?_⟩
      rw [Expansion.fetched_lapEntry ho htodo]
      have plan : (j.plans.set b (entryPlan o.data j.limits[b]))[b] = entryPlan o.data j.limits[b] := by simp
      refine ⟨fun n hn => ?_, fun hb => ?_, fun hb => ?_⟩
      · have : b.val ≠ n.val := fun e => hn (Fin.ext e.symm)
        simp [this]
      · rw [plan, entryPlan_stand hb]
        exact ⟨rfl, rfl⟩
      · rw [plan, entryPlan_table hb]
        exact ⟨rfl, rfl, rfl, clampedPlan_clamped _ _ _ _⟩
    all_goals simp [State.afterRead, captureKindOf, correctedAfter, o, count]

end Sys2Proof.Machine

-- ==== The capture record and the corrected count (O28, O29) ====
namespace Sys2Proof.Machine

/-! ### Counting (R28) -/

theorem correctedAfter_correctable {o : ReadOutcome} (h : o.severity = some .correctable) (count : Nat) :
    correctedAfter count o = min 255 (count + 1) := if_pos h

theorem correctedAfter_other {o : ReadOutcome} (h : o.severity ≠ some .correctable) (count : Nat) :
    correctedAfter count o = count := if_neg h

theorem Store.report_corrected (st : Store) (kind : CaptureKind) (addr : Nat) (o : ReadOutcome) :
    (st.report kind addr o).corrected = correctedAfter st.corrected o := rfl

theorem Store.report_capture (st : Store) (kind : CaptureKind) (addr : Nat) (o : ReadOutcome) :
    (st.report kind addr o).capture = captureReport st.capture kind addr o := rfl

/-- The node form's last word is the corrected count (R187). -/
theorem nodeForm_words (s : State) : ∃ w0 w1 w2 w3 w4, nodeForm s = [w0, w1, w2, w3, w4, BitVec.ofNat 16 s.store.corrected] := by
  have node : ∃ w0 w1 w2, nodeFaultWords s.faults.node = [w0, w1, w2] := by
    unfold nodeFaultWords
    split <;> exact ⟨_, _, _, rfl⟩
  have capture : ∃ w3 w4, captureWords s.store.capture = [w3, w4] := by
    unfold captureWords
    split <;> exact ⟨_, _, rfl⟩
  obtain ⟨w0, w1, w2, hnode⟩ := node
  obtain ⟨w3, w4, hcapture⟩ := capture
  exact ⟨w0, w1, w2, w3, w4, by rw [nodeForm, hnode, hcapture]; rfl⟩

/-- Settles O28: the count's rule, its use at the completion of a read, and the node form of GET_FAULTS. -/
theorem correctedCount : Obligations.CorrectedCount := by
  refine ⟨fun st kind addr o => ⟨fun h hlt => ?_, fun h heq => ?_, fun h => ?_, fun capture => rfl⟩,
    fun s a h ha hwrite horphan => ?_, fun s env h hlen => ?_⟩
  · rw [Store.report_corrected, correctedAfter_correctable h]
    omega
  · rw [Store.report_corrected, correctedAfter_correctable h, heq]
    rfl
  · rw [Store.report_corrected, correctedAfter_other h]
  · have access : s.store.access = some { client := a.client, addr := a.addr, write := none, orphan := false } := by
      rw [h, ← hwrite, ← horphan]
    refine ⟨_, exec_read ha access, ?_⟩
    rw [State.grant_corrected, State.deliver_corrected]
    rfl
  · obtain ⟨w0, w1, w2, w3, w4, words⟩ := nodeForm_words { s with ring := s.requestEntered .getFaults env }
    refine ⟨w0, w1, w2, w3, w4, exec_answered_same _ .getFaults rfl h rfl nofun _ ?_⟩
    rw [immediateOp_getFaults, opGetFaults, if_pos hlen, words]

/-! ### Clearing (R29) -/

/-- CLEAR_FAULT of ECC or ALL clears the store's records (R29, R169). -/
theorem opClearFault_ecc {target : Byte} (h : target = 2 ∨ target = 3) (bar : Byte) (s : State) :
    ∃ faults, opClearFault target bar s = ({ s with faults := faults, store := s.store.cleared }, .only .done) := by
  rcases h with rfl | rfl
  · exact ⟨s.faults, rfl⟩
  · exact ⟨.initial, rfl⟩

theorem exec_clearFault_ecc {s : State} (h : s.takesService) {env : Envelope} (hdata : env.data = []) {target : Byte}
    (ht : target = 2 ∨ target = 3) (bar : Byte) :
    ∃ t, exec (.clearFault env target bar) s = .next t ∧ t.store = s.store.cleared := by
  have own : ∃ faults, immediateOp (.clearFault target bar) env.data { s with ring := s.requestEntered (.clearFault target bar) env }
      = ({ s with ring := s.requestEntered (.clearFault target bar) env, faults := faults, store := s.store.cleared },
          .only .done) := by
    rw [hdata, immediateOp_clearFault]
    exact opClearFault_ecc ht bar _
  obtain ⟨_, own⟩ := own
  exact ⟨_, exec_answered_own _ (.clearFault target bar) rfl h rfl nofun _ _ own, rfl⟩

theorem opRestart_done {s : State} (hstill : ∀ n : BarIx, s.bars[n].motion = .still) (hcommit : s.engine.commit = none) :
    opRestart s = (s.restarted, .only .done) := by
  have idle : anyBar s.bars Bar.busy = false := by
    refine List.any_eq_false.mpr fun n _ => ?_
    rw [Bar.busy, hstill n]
    nofun
  simp [opRestart, idle, hcommit]

/-- Settles O29: clearing empties the record and the count, and a report meets the empty record. -/
theorem captureRecordCleared : Obligations.CaptureRecordCleared := by
  refine ⟨fun s env target bar h hdata ht => ?_, fun straps a b homes s => ⟨_, rfl, rfl, rfl⟩, fun s => ⟨_, rfl, rfl, rfl⟩,
    fun env s h hdata hstill hcommit => ?_⟩
  · obtain ⟨t, done, cleared⟩ := exec_clearFault_ecc h hdata ht bar
    refine ⟨t, done, cleared, fun kind addr o sev ho => ?_, fun kind addr o => ?_⟩
    · rw [Store.report_capture, Store.report_corrected, cleared]
      refine ⟨captureReport_empty ho kind addr, ?_⟩
      cases sev
      · exact correctedAfter_correctable ho 0
      · exact correctedAfter_other (by rw [ho]; nofun) 0
    · have h' : ({ s with store := s.store.report kind addr o } : State).takesService := h
      obtain ⟨u, again, empty⟩ := exec_clearFault_ecc h' hdata ht bar
      exact ⟨u, again, by rw [empty]; rfl, by rw [empty]; rfl⟩
  · refine ⟨_, exec_answered_own _ .restart rfl h rfl nofun
      (State.restarted { s with ring := s.requestEntered .restart env }) (.only .done) ?_, rfl, rfl⟩
    rw [hdata, immediateOp_restart]
    exact opRestart_done hstill hcommit

end Sys2Proof.Machine

-- ==== Requests to the store taken (O33, O53) ====
namespace Sys2Proof.Machine

/-! ### A grant and the rest of the state (R23) -/

/-- A grant does not read the ring port. -/
theorem State.grant_withRing (s : State) (r : Ring) : State.grant { s with ring := r } = { s.grant with ring := r } := by
  have next : ∀ c, State.nextAccess { s with ring := r } c = s.nextAccess c := fun c => by cases c <;> rfl
  have candidate : State.candidate { s with ring := r } = s.candidate := by simp only [State.candidate, next]
  unfold State.grant
  simp only [candidate, next]
  split
  · rfl
  · split <;> rfl

/-- The state before a grant is the state after it with the store put back. -/
theorem State.grant_undone (s : State) : { s.grant with store := s.store } = s := by
  rw [State.grant_eq]

/-! ### COMMIT_CLASS (R65) -/

theorem opCommitClass_range {cls : Byte} (h : 4 ≤ cls.toNat) (s : State) : opCommitClass cls s = (s, .only .range) := by
  rw [opCommitClass, classIxOf_none.mpr h]

theorem opCommitClass_state {cls : Byte} {c : ClassIx} (hc : classIxOf cls = some c) {s : State}
    (hs : s.node.state ≠ .offline ∧ s.node.state ≠ .armed) : opCommitClass cls s = (s, .only .state) := by
  simp only [opCommitClass, hc]
  exact if_pos hs

/-- The node states in which a commit is taken. -/
theorem not_neither {s : State} (hs : s.node.state = .offline ∨ s.node.state = .armed) :
    ¬ (s.node.state ≠ .offline ∧ s.node.state ≠ .armed) := fun h => hs.elim h.1 h.2

theorem opCommitClass_busy {cls : Byte} {c : ClassIx} (hc : classIxOf cls = some c) {s : State}
    (hs : s.node.state = .offline ∨ s.node.state = .armed) (hb : s.engine.commit.isSome ∨ s.store.state = .clearing) :
    opCommitClass cls s = (s, .only .busy) := by
  simp only [opCommitClass, hc, if_neg (not_neither hs)]
  split
  · rfl
  · next free => exact if_pos (hb.resolve_left free)

theorem opCommitClass_started {cls : Byte} {c : ClassIx} (hc : classIxOf cls = some c) {s : State}
    (hs : s.node.state = .offline ∨ s.node.state = .armed) (hcommit : s.engine.commit = none) (hready : s.store.state = .ready) :
    opCommitClass cls s = (s.beginCommit c, .only .started) := by
  simp [opCommitClass, hc, if_neg (not_neither hs), hcommit, hready]

/-- The class engine once a commit has begun (R65). -/
def Engine.committing (e : Engine) (c : ClassIx) : Engine :=
  { classes := e.classes.set c { e.classes[c] with state := .computing }
    commit := some { cls := c, prior := e.classes[c].state, spn := e.classes[c].spn, length := e.classes[c].length, fetched := [],
                     raised := false, stage := .fetching, shadow := [] } }

/-- The state with a commit's first fetch presented, before the arbiter grants (R66), and a ring port. -/
def State.askCommit (s : State) (c : ClassIx) (r : Ring) : State :=
  { s with engine := s.engine.committing c, ring := r, store := { s.store with waitEngine := true } }

theorem State.beginCommit_withRing (s : State) (c : ClassIx) (r : Ring) :
    { s.beginCommit c with ring := r } = (s.askCommit c r).grant :=
  (State.grant_withRing { s with engine := s.engine.committing c, store := { s.store with waitEngine := true } } r).symm

/-- A commit's first fetch is granted at once where the store is free and no client before the engine waits (R23). -/
theorem State.askCommit_granted {s : State} (free : s.store.access = none) (ready : s.store.state = .ready)
    (hx : s.store.waitExpander = false) (hs : s.store.waitService = false) (c : ClassIx) (r : Ring) :
    (s.askCommit c r).grant.store.access
      = some { client := .engine, addr := rampAddr c 0, write := none, orphan := false } := by
  have next : (s.askCommit c r).nextAccess .engine = some ⟨.engine, rampAddr c 0, none, false⟩ := rfl
  have candidate : (s.askCommit c r).candidate = some .engine :=
    State.candidate_of rfl (by rw [next]; rfl) (fun _ => Or.inl hx) (fun _ => Or.inl hs)
  rw [State.grant_takes (s := s.askCommit c r) free ready candidate next]

theorem classIxOf_of_lt {cls : Byte} (h : cls.toNat < 4) : classIxOf cls = some ⟨cls.toNat, h⟩ := classIxOf_some.mpr rfl

/-- Settles O33: the refusals in order, and the commit's first fetch at the arbiter. -/
theorem commitClassTaken : Obligations.CommitClassTaken := by
  intro s env cls h hdata
  have refused : ∀ r, opCommitClass cls { s with ring := s.requestEntered (.commitClass cls) env }
      = ({ s with ring := s.requestEntered (.commitClass cls) env }, .only r) →
      exec (.commitClass env cls) s = .next (s.answered (.commitClass cls) env (.only r)) := fun r own =>
    exec_answered_same _ (.commitClass cls) rfl h rfl nofun _ (by rw [hdata, immediateOp_commitClass, own])
  refine ⟨fun hc => refused _ (opCommitClass_range hc _), fun hc ho ha => ?_, fun hc hs hb => ?_, fun c hc hs hcommit hready => ?_⟩
  · exact refused _ (opCommitClass_state (classIxOf_of_lt hc) ⟨ho, ha⟩)
  · exact refused _ (opCommitClass_busy (classIxOf_of_lt hc) hs hb)
  · have own : immediateOp (.commitClass cls) env.data { s with ring := s.requestEntered (.commitClass cls) env }
        = (State.beginCommit { s with ring := s.requestEntered (.commitClass cls) env } c, .only .started) := by
      rw [hdata, immediateOp_commitClass]
      exact opCommitClass_started (classIxOf_some.mpr hc) hs hcommit hready
    have done := exec_answered_own (.commitClass env cls) _ rfl h rfl nofun _ _ own
    rw [State.beginCommit_withRing] at done
    refine ⟨_, done, State.grant_eq _, ?_, fun free hx hs => ?_, fun held => ?_⟩
    · exact congrArg State.grant (State.grant_undone _).symm
    · exact State.askCommit_granted free hready hx hs c _
    · exact congrArg State.store (State.grant_held (s := State.askCommit _ c _) (Or.inl held))

/-! ### LOAD and READ (R32, R35) -/

theorem rangeBad_iff (start : BitVec 24) (count : Byte) (n : Nat) :
    rangeBad start count n = true
      ↔ count.toNat < 1 ∨ 32 < count.toNat ∨ n ≠ count.toNat ∨ 66687 < start.toNat + count.toNat - 1 := by
  simp only [rangeBad, Bool.or_eq_true, decide_eq_true_eq, bne_iff_ne]
  unfold storeSize
  omega

/-- A range meets a region where some word of it lies in the region. -/
theorem meetsComputing_iff (s : State) {start count : Nat} (h : 1 ≤ count) :
    meetsComputing s start count = true ↔ ∃ c : ClassIx, s.engine.classes[c].state = .computing
      ∧ ∃ k, k < count ∧ 66560 + 32 * c.val ≤ start + k ∧ start + k < 66560 + 32 * c.val + 32 := by
  have meets : ∀ c : ClassIx, (start < rampAddr c 32 ∧ rampAddr c 0 < start + count)
      ↔ ∃ k, k < count ∧ 66560 + 32 * c.val ≤ start + k ∧ start + k < 66560 + 32 * c.val + 32 := by
    intro c
    unfold rampAddr rampBase
    constructor
    · rintro ⟨below, above⟩
      exact ⟨66560 + 32 * c.val - start, by omega⟩
    · rintro ⟨k, hk, above, below⟩
      omega
  simp only [meetsComputing, List.any_eq_true, List.mem_finRange, true_and, Bool.and_eq_true, decide_eq_true_eq, and_assoc,
    meets, beq_iff_eq]

/-- What LOAD and READ check of a range and its data count (R32, R35), as the rule states it. -/
theorem rangeBad_false {start : BitVec 24} {count : Byte} {n : Nat}
    (h : ¬ (count.toNat < 1 ∨ 32 < count.toNat ∨ n ≠ count.toNat ∨ 66687 < start.toNat + count.toNat - 1)) :
    rangeBad start count n = false := by
  rw [← rangeBad_iff] at h
  exact Bool.eq_false_iff.mpr h

theorem loadResult_range {s : State} {start : BitVec 24} {count : Byte} {n : Nat} (h : rangeBad start count n = true) :
    loadResult s start count n = .range := if_pos h

theorem loadResult_clearing {s : State} {start : BitVec 24} {count : Byte} {n : Nat} (h : rangeBad start count n = false)
    (hs : s.store.state = .clearing) : loadResult s start count n = .busy := by
  simp [loadResult, h, hs]

theorem loadResult_ready {s : State} {start : BitVec 24} {count : Byte} {n : Nat} (h : rangeBad start count n = false)
    (hs : s.store.state = .ready) :
    loadResult s start count n = if meetsComputing s start.toNat count.toNat then .busy else .done := by
  simp [loadResult, h, hs]

theorem readRefusal_range {s : State} {start : BitVec 24} {count : Byte} {n : Nat} (h : rangeBad start count n = true) :
    readRefusal s start count n = some .range := if_pos h

theorem readRefusal_clearing {s : State} {start : BitVec 24} {count : Byte} {n : Nat} (h : rangeBad start count n = false)
    (hs : s.store.state = .clearing) : readRefusal s start count n = some .busy := by
  simp [readRefusal, h, hs]

theorem readRefusal_ready {s : State} {start : BitVec 24} {count : Byte} {n : Nat} (h : rangeBad start count n = false)
    (hs : s.store.state = .ready) : readRefusal s start count n = none := by
  simp [readRefusal, h, hs]

theorem opLoad_refused {s : State} {start : BitVec 24} {count : Byte} {data : List Word} {r : Result}
    (h : loadResult s start count data.length = r) (hr : r ≠ .done) : opLoad start count data s = (s, .only r) := by
  simp only [opLoad, h, if_neg hr]

/-- The state with a LOAD's words staged and the first write presented, before the arbiter grants (R33), and a ring port. -/
def State.askLoad (s : State) (start : BitVec 24) (data : List Word) (r : Ring) : State :=
  { s with ring := r, store := { s.store with staging := stagedWords start.toNat data, waitService := true } }

/-- A LOAD taken: its first write is presented. -/
theorem opLoad_done {s : State} {start : BitVec 24} {count : Byte} {data : List Word}
    (h : loadResult s start count data.length = .done) :
    opLoad start count data s = ((s.askLoad start data s.ring).grant, .only .done) := by
  simp only [opLoad, h, if_true]
  rfl

theorem stagedWords_length (a : Nat) (data : List Word) : (stagedWords a data).length = data.length := by
  induction data generalizing a with
  | nil => rfl
  | cons d rest ih => simp [stagedWords, ih]

/-- The words of a LOAD are staged at rising addresses (R32). -/
theorem stagedWords_get {data : List Word} {k : Nat} {d : Word} (h : data[k]? = some d) (a : Nat) :
    (stagedWords a data)[k]? = some (a + k, d) := by
  induction data generalizing a k with
  | nil => simp at h
  | cons e rest ih =>
    cases k with
    | zero => simpa [stagedWords] using h
    | succ k =>
      rw [stagedWords, List.getElem?_cons_succ, ih (by simpa using h)]
      simp only [Option.some.injEq, Prod.mk.injEq, and_true]
      omega

theorem State.takeRequest_readRefused {s : State} {d : Deferred} {start : BitVec 24} {count : Byte}
    (hop : d.op = .read start count) {r : Result} (hr : readRefusal s start count d.env.data.length = some r) :
    s.takeRequest d = s.answer d.ticket d.form d.op d.env (.only r) := by
  simp only [State.takeRequest, hop, hr]

/-- The READ whose reads begin (R35). -/
def Deferred.readJob (d : Deferred) (start : BitVec 24) (count : Byte) : ReadJob :=
  { start := start.toNat, count := count.toNat, words := [], firstBad := none, op := d.op, env := d.env, ticket := d.ticket,
    form := d.form }

/-- The state with a READ's first read presented, before the arbiter grants (R35). -/
def State.askRead (s : State) (r : ReadJob) : State :=
  { s with store := { s.store with read := some r, waitService := true } }

/-- A READ taken: its first read is presented. -/
theorem State.takeRequest_readBegun {s : State} {d : Deferred} {start : BitVec 24} {count : Byte}
    (hop : d.op = .read start count) (hr : readRefusal s start count d.env.data.length = none) :
    s.takeRequest d = (s.askRead (d.readJob start count)).grant := by
  simp only [State.takeRequest, hop, hr]
  rfl

/-- A request that arrives while the path is free is taken. -/
theorem exec_taken {i : Instr} {op : ServiceOp} {env : Envelope} (hi : i.request = some (op, env)) {s : State}
    (h : s.takesService) : exec i s = .next (State.takeRequest
      { s with homes := i.homesSeen s.homes, ring := s.requestEntered op env }
      { op := op, env := env, ticket := s.ring.nextTicket, form := .clean }) := by
  obtain ⟨active, free⟩ := h
  rw [exec_request hi]
  rcases State.serviceRequest_cases { s with homes := i.homesSeen s.homes } op env with ⟨hr, -⟩ | ⟨-, hd, -⟩ | ⟨-, -, e⟩
  · exact absurd (active.symm.trans hr) nofun
  · exact absurd (free.symm.trans hd) nofun
  · exact congrArg _ e

/-- Settles O53: the range and the store's state decide a LOAD and a READ, and the first of their accesses is presented. -/
theorem loadAndReadTaken : Obligations.LoadAndReadTaken := by
  intro s env start count h badRange meets
  have loadRefused : ∀ r, r ≠ .done → loadResult s start count env.data.length = r →
      exec (.load env start count) s = .next (s.answered (.load start count) env (.only r)) := fun r hne hr =>
    exec_answered_same _ (.load start count) rfl h rfl nofun _ (opLoad_refused hr hne)
  have readRefused : ∀ r, readRefusal s start count env.data.length = some r →
      exec (.read env start count) s = .next (s.answered (.read start count) env (.only r)) := fun r hr => by
    rw [exec_taken (i := .read env start count) rfl h, State.takeRequest_readRefused rfl hr]
    rfl
  refine ⟨fun hbad => ⟨?_, ?_⟩, fun hok hc => ⟨?_, ?_⟩, fun hok hs hm => ?_, fun hok hs hm => ?_, fun hok hs => ?_⟩
  · exact loadRefused _ nofun (loadResult_range ((rangeBad_iff _ _ _).mpr hbad))
  · exact readRefused _ (readRefusal_range ((rangeBad_iff _ _ _).mpr hbad))
  · exact loadRefused _ nofun (loadResult_clearing (rangeBad_false hok) hc)
  · exact readRefused _ (readRefusal_clearing (rangeBad_false hok) hc)
  · refine loadRefused _ nofun ?_
    rw [loadResult_ready (rangeBad_false hok) hs]
    exact if_pos ((meetsComputing_iff s (by omega)).mpr hm)
  · have taken : loadResult s start count env.data.length = .done := by
      rw [loadResult_ready (rangeBad_false hok) hs]
      exact if_neg fun hc => hm ((meetsComputing_iff s (by omega)).mp hc)
    have done := exec_answered_own (.load env start count) _ rfl h rfl nofun _ _ (opLoad_done taken)
    rw [← State.grant_withRing] at done
    refine ⟨_, done, State.grant_eq _, ?_, State.grant_words _, ?_, fun k d hk => ?_⟩
    · rw [State.grant_staging]
      exact congrArg State.grant (State.grant_undone _).symm
    · rw [State.grant_staging]
      exact (stagedWords_length _ _).trans (by omega)
    · rw [State.grant_staging]
      exact stagedWords_get hk _
  · have begun := State.takeRequest_readBegun (s := { s with ring := s.requestEntered (.read start count) env })
      (d := { op := .read start count, env := env, ticket := s.ring.nextTicket, form := .clean }) rfl
      (readRefusal_ready (rangeBad_false hok) hs)
    have done := (exec_taken (i := .read env start count) rfl h).trans (congrArg _ begun)
    refine ⟨_, done, State.grant_eq _, ?_, State.grant_words _, State.grant_storeRead _⟩
    rw [State.grant_storeRead]
    exact congrArg State.grant (State.grant_undone _).symm

end Sys2Proof.Machine

-- ==== Requests and course frames that wait (O43) ====
namespace Sys2Proof.Machine

theorem Store.SameButRequests.symm {a b : Store} (h : a.SameButRequests b) : b.SameButRequests a := by
  cases a; cases b
  simp only [Store.SameButRequests, Store.mk.injEq, true_and] at *
  simp [h]

/-! ### Requests held (R34) -/

theorem State.pathOccupied_iff (s : State) :
    s.pathOccupied = true ↔ s.store.staging ≠ [] ∨ s.store.read ≠ none ∨ s.expander.job ≠ none := by
  simp [State.pathOccupied, or_assoc, Option.isSome_iff_ne_none]

theorem State.pathOccupied_false {s : State} (hstaging : s.store.staging = []) (hread : s.store.read = none)
    (hjob : s.expander.job = none) : s.pathOccupied = false := by
  simp [State.pathOccupied, hstaging, hread, hjob]

theorem State.mustDefer_iff (s : State) :
    s.mustDefer = true
      ↔ s.store.staging ≠ [] ∨ s.store.read ≠ none ∨ s.expander.job ≠ none ∨ s.ring.deferred ≠ [] := by
  simp [State.mustDefer, State.pathOccupied_iff, or_assoc]

/-- A request that arrives while the path is occupied, or behind one held, is held. -/
theorem exec_held {i : Instr} {op : ServiceOp} {env : Envelope} (hi : i.request = some (op, env)) {s : State}
    (active : s.inReset = false) (hd : s.mustDefer = true) :
    exec i s = .next { s with
      homes := i.homesSeen s.homes
      ring := { s.requestEntered op env with deferred := s.ring.deferred
        ++ [{ op := op, env := env, ticket := s.ring.nextTicket, form := .clean }] } } := by
  rw [exec_request hi]
  rcases State.serviceRequest_cases { s with homes := i.homesSeen s.homes } op env with ⟨hr, -⟩ | ⟨-, -, e⟩ | ⟨-, hf, -⟩
  · exact absurd (active.symm.trans hr) nofun
  · exact congrArg _ e
  · exact absurd (hd.symm.trans hf) nofun

/-- While the path is occupied no request held is taken. -/
theorem exec_deferred_occupied {s : State} (h : s.pathOccupied = true) (homes : BitVec 16) :
    exec (.deferredServiceOp homes) s = .next { s with homes := homes } := by
  show execDeferredServiceOp homes s = _
  have occupied : State.pathOccupied { s with homes := homes } = true := h
  simp only [execDeferredServiceOp, occupied, if_true]
  split <;> rfl

/-- The state in which the first request held is taken. -/
def State.deferredFrom (s : State) (homes : BitVec 16) (rest : List Deferred) : State :=
  { s with homes := homes, ring := { s.ring with deferred := rest } }

/-- Once the path is free the first request held is taken. -/
theorem exec_deferred_taken {s : State} (h : s.pathOccupied = false) {d : Deferred} {rest : List Deferred}
    (hd : s.ring.deferred = d :: rest) (homes : BitVec 16) :
    exec (.deferredServiceOp homes) s = .next ((s.deferredFrom homes rest).takeRequest d) := by
  show execDeferredServiceOp homes s = _
  have free : State.pathOccupied { s with homes := homes } = false := h
  simp only [execDeferredServiceOp, hd, free, Bool.false_eq_true, if_false]
  rfl

/-- A request other than a READ that is taken: its operation's own rule, and its reply in the ring port. -/
theorem State.takeRequest_answered (s : State) {d : Deferred} (hop : ∀ start count, d.op ≠ .read start count) :
    s.takeRequest d = { (immediateOp d.op d.env.data s).1 with
      ring := s.ring.release d.ticket ((immediateOp d.op d.env.data s).2.chars d.form s.ring.address d.op d.env) } := by
  rcases s.takeRequest_cases d with ⟨a, c, h, -⟩ | ⟨a, c, r, h, -⟩ | ⟨-, h⟩
  · exact absurd h (hop a c)
  · exact absurd h (hop a c)
  · rw [h, State.answer, State.release, (immediateOp_sameOutside d.op d.env.data s).1]

/-! ### Course frames that wait (R34, R46) -/

/-- A course frame that arrives while an expansion would have to wait joins those that wait. -/
theorem exec_courseFrame_waits {s : State} (active : s.inReset = false) (h : s.expansionWaits = true) (f : CourseFrame) :
    exec (.courseFrame f) s = .next { s with
      ring := { s.courseEntered f with waiting := s.ring.waiting ++ [(s.ring.nextTicket, f)] } } := by
  show Host.Outcome.next (s.courseFrame f) = _
  rw [State.courseFrame, if_neg (by simp [active])]
  exact congrArg _ (if_pos h)

/-- Any other is handed over. -/
theorem exec_courseFrame_handed {s : State} (active : s.inReset = false) (h : s.expansionWaits = false) (f : CourseFrame) :
    exec (.courseFrame f) s = .next (State.handOver { s with ring := s.courseEntered f } s.ring.nextTicket f) := by
  have free : ¬ s.expansionWaits = true := by simp [h]
  show Host.Outcome.next (s.courseFrame f) = _
  rw [State.courseFrame, if_neg (by simp [active])]
  exact congrArg _ (if_neg free)

theorem State.expansionWaits_iff (s : State) : s.expansionWaits = true ↔ s.expander.job ≠ none ∨ s.store.staging ≠ [] := by
  simp [State.expansionWaits, Option.isSome_iff_ne_none]

/-- The hand-over reads nothing of the ring port but the straps. -/
theorem handOverCheck_grant (s : State) (f : CourseFrame) : handOverCheck s.grant f = handOverCheck s f := by
  simp [handOverCheck]

theorem State.slot_grant (s : State) (v : Verdict) : s.grant.slot v = s.slot v := by
  simp [State.slot, State.attention]

/-- An expansion begun leaves what it does not ask of the store. -/
theorem State.beginExpansion_eq (s : State) (ticket : Nat) (f : CourseFrame) :
    s.beginExpansion ticket f = { s with
      expander := { s.expander with job := some (expansionOf s ticket f) }
      store := (s.beginExpansion ticket f).store } := by
  unfold State.beginExpansion
  simp only []
  split
  · rfl
  · rw [State.present, State.grant_eq]

/-- The state with no course frame waiting. -/
def State.noneWaiting (s : State) : State := { s with ring := { s.ring with waiting := [] } }

theorem State.releaseWaiting_noneWaiting (s : State) : s.noneWaiting.releaseWaiting = s.noneWaiting :=
  State.releaseWaiting_idle (Or.inl rfl)

section
variable {s : State} {ticket : Nat} {f : CourseFrame} {rest : List (Nat × CourseFrame)}

/-- Of the course frames that waited the first passes the checks: its expansion begins, and the others wait on. -/
theorem State.releaseWaiting_handed (free : s.expansionWaits = false) (hw : s.ring.waiting = (ticket, f) :: rest)
    (h : handOverCheck s f = none) :
    s.releaseWaiting = { s with
      expander := { s.expander with job := some (expansionOf s ticket f) }
      store := s.releaseWaiting.store
      ring := { s.ring with waiting := rest } } := by
  have handed : s.handOver ticket f = s.beginExpansion ticket f := by rw [State.handOver, h]
  have begun := s.beginExpansion_eq ticket f
  have job : (s.beginExpansion ticket f).expander.job.isSome = true := by rw [begun]; rfl
  have released : s.releaseWaiting
      = { s.beginExpansion ticket f with ring := { (s.beginExpansion ticket f).ring with waiting := rest } } := by
    simp only [State.releaseWaiting, free, Bool.false_eq_true, if_false, hw, handOverWaiting, handed, job, if_true]
  rw [released, begun]

/-- What it leaves of the store but the requests. -/
theorem State.eq_of_sameButRequests {t u : State} {e : Expander} {r : Ring}
    (h : t = { u with expander := e, store := t.store, ring := r }) (hb : u.store.SameButRequests t.store) :
    t = { u with
      expander := e
      store := { u.store with
        access := t.store.access
        waitExpander := t.store.waitExpander
        waitService := t.store.waitService
        waitEngine := t.store.waitEngine }
      ring := r } :=
  h.trans (congrArg (fun st : Store => { u with expander := e, store := st, ring := r }) hb)

/-- The same with a grant after it, against the state in which no frame waited. -/
theorem State.releaseWaiting_grant_handed (free : s.expansionWaits = false) (hw : s.ring.waiting = (ticket, f) :: rest)
    (h : handOverCheck s f = none) :
    s.releaseWaiting.grant = { s.noneWaiting.grant with
      expander := { s.expander with job := some (expansionOf s ticket f) }
      store := s.releaseWaiting.grant.store
      ring := { s.ring with waiting := rest } } := by
  have handed := State.releaseWaiting_handed free hw h
  rw [s.releaseWaiting.grant_eq, s.noneWaiting.grant_eq]
  exact congrArg (fun t : State => { t with store := s.releaseWaiting.grant.store }) handed

/-- The only course frame that waited is refused: it is sent with its verdict. -/
theorem State.releaseWaiting_refused (free : s.expansionWaits = false) (hw : s.ring.waiting = [(ticket, f)]) {v : Verdict}
    (h : handOverCheck s f = some v) :
    s.releaseWaiting = { s.noneWaiting with
      ring := s.noneWaiting.ring.release ticket
        (cleanFrameOf (courseBody (frameWithSlot f s.ring.straps (s.slot v)))) } := by
  have handed : s.handOver ticket f = s.answerCourse ticket f v := by rw [State.handOver, h]
  have job : (s.answerCourse ticket f v).expander.job.isSome = false := (Bool.or_eq_false_iff.mp free).1
  simp only [State.releaseWaiting, free, Bool.false_eq_true, if_false, hw, handOverWaiting, handed, job]
  rfl

end

/-- An expansion's completion, before what waited is handed over (R53). -/
def State.afterExpansion (s : State) (j : Expansion) : State :=
  let idle := { s with expander := { s.expander with job := none } }
  (idle.takeCandidate j (completionVerdict idle j)).answerCourse j.ticket j.frame (completionVerdict idle j)

theorem exec_expansionComplete {s : State} {j : Expansion} (h : s.expander.job = some j) (ht : j.todo = []) :
    exec .expansionComplete s = .next (s.afterExpansion j).releaseWaiting := by
  show execExpansionComplete s = _
  rw [execExpansionComplete, h]
  simp only [ht, List.isEmpty_nil, if_true]
  rfl

theorem State.takeCandidate_noneWaiting (s : State) (j : Expansion) (v : Verdict) :
    s.noneWaiting.takeCandidate j v = (s.takeCandidate j v).noneWaiting := by
  unfold State.takeCandidate
  split <;> rfl

theorem State.afterExpansion_noneWaiting (s : State) (j : Expansion) :
    s.noneWaiting.afterExpansion j = (s.afterExpansion j).noneWaiting :=
  congrArg (fun t : State => t.answerCourse j.ticket j.frame
    (completionVerdict { s with expander := { s.expander with job := none } } j))
    (State.takeCandidate_noneWaiting { s with expander := { s.expander with job := none } } j _)

theorem State.afterExpansion_waits (s : State) (j : Expansion) :
    (s.afterExpansion j).ring.waiting = s.ring.waiting
      ∧ (s.afterExpansion j).expansionWaits = !s.store.staging.isEmpty := by
  unfold State.afterExpansion State.expansionWaits
  simp

/-! ### The obligation -/

/-- Settles O43: what holds a request or a course frame, and what takes the first of those held. -/
theorem requestsWaitTheirTurn : Obligations.RequestsWaitTheirTurn := by
  refine ⟨fun c op env s hc active h => exec_held hc active (s.mustDefer_iff.mpr h),
    fun s homes h => exec_deferred_occupied (s.pathOccupied_iff.mpr h) homes,
    fun s homes d rest hstaging hread hjob hd hop => ?_, fun s homes d rest start count hstaging hread hjob hd hop => ?_,
    fun s f active h => exec_courseFrame_waits active (s.expansionWaits_iff.mpr h) f,
    fun c s ticket f rest hw hc => ?_⟩
  · have taken := exec_deferred_taken (State.pathOccupied_false hstaging hread hjob) hd homes
    rw [State.takeRequest_answered _ hop] at taken
    exact ⟨_, taken, rfl⟩
  · have taken := exec_deferred_taken (State.pathOccupied_false hstaging hread hjob) hd homes
    intro badRange refused
    have refuse : ∀ r, readRefusal s start count d.env.data.length = some r → refused r := fun r hr => by
      rw [State.takeRequest_readRefused (s := s.deferredFrom homes rest) hop hr] at taken
      exact taken
    refine ⟨fun hbad => refuse _ (readRefusal_range ((rangeBad_iff _ _ _).mpr hbad)),
      fun hok hs => refuse _ (readRefusal_clearing (rangeBad_false hok) hs), fun hok hs => ?_⟩
    have begun := State.takeRequest_readBegun (s := s.deferredFrom homes rest) hop
      (readRefusal_ready (rangeBad_false hok) hs)
    exact taken.trans (congrArg _ begun)
  · rcases hc with ⟨rfl, hstaging, j, hj, ht⟩ | ⟨rfl, hjob, hstaging, addr, w, haddr, ha⟩
    · obtain ⟨waiting, free⟩ := s.afterExpansion_waits j
      rw [hw] at waiting
      rw [hstaging] at free
      have alone := exec_expansionComplete (s := s.noneWaiting) hj ht
      rw [State.afterExpansion_noneWaiting, State.releaseWaiting_noneWaiting] at alone
      refine ⟨_, _, alone, exec_expansionComplete hj ht, fun h => ?_, fun v h hrest => ?_⟩
      · exact ⟨expansionOf (s.afterExpansion j) ticket f, rfl, rfl, State.eq_of_sameButRequests
          (State.releaseWaiting_handed free waiting h) (State.releaseWaiting_sameButRequests _)⟩
      · subst hrest
        exact State.releaseWaiting_refused free waiting h
    · have waiting : (s.afterWrite addr w).ring.waiting = (ticket, f) :: rest := hw
      have free : (s.afterWrite addr w).expansionWaits = false := by
        have : s.store.staging.drop 1 = [] := List.drop_eq_nil_of_le hstaging
        simp [State.expansionWaits, State.afterWrite, hjob, this]
      have alone : exec .wordAccessComplete s.noneWaiting = .next (s.afterWrite addr w).noneWaiting.grant := by
        rw [exec_write (s := s.noneWaiting) haddr ha]
        exact congrArg (fun t : State => Host.Outcome.next t.grant) (s.afterWrite addr w).releaseWaiting_noneWaiting
      refine ⟨_, _, alone, exec_write haddr ha, fun h => ?_, fun v h hrest => ?_⟩
      · rw [handOverCheck_grant] at h
        refine ⟨expansionOf (s.afterWrite addr w) ticket f, rfl, rfl, State.eq_of_sameButRequests ?_ ?_⟩
        · rw [State.grant_expander, State.grant_ring]
          exact State.releaseWaiting_grant_handed free waiting h
        · exact (State.grant_sameButRequests (s.afterWrite addr w).noneWaiting).symm.trans
            ((State.releaseWaiting_sameButRequests (s.afterWrite addr w)).trans (State.grant_sameButRequests _))
      · subst hrest
        rw [handOverCheck_grant] at h
        rw [State.releaseWaiting_refused free waiting h, State.grant_withRing, State.grant_ring, State.slot_grant]
        rfl

end Sys2Proof.Machine

-- ==== A course frame begins an expansion (O37) ====
namespace Sys2Proof.Machine

/-! ### Overrides (R42, R43) -/

theorem localBar_some {address : Nat} {global : Byte} {n : BarIx} :
    localBar address global = some n ↔ global.toNat = (address - 1) * 16 + n.val := by
  have hn := n.isLt
  unfold localBar
  split
  · simp only [Option.some.injEq, Fin.ext_iff]
    omega
  · simp only [reduceCtorEq, false_iff]
    omega

/-- The last override that names a bar is its override (R43). -/
theorem overrideFor_last {address : Nat} {n : BarIx} {before after : List Override} {o : Override}
    (ho : o.bar.toNat = (address - 1) * 16 + n.val) (hafter : ∀ o' ∈ after, o'.bar.toNat ≠ (address - 1) * 16 + n.val) :
    overrideFor address (before ++ o :: after) n = some o := by
  have named : (localBar address o.bar == some n) = true := beq_iff_eq.mpr (localBar_some.mpr ho)
  have others : after.filter (fun o => localBar address o.bar == some n) = [] := by
    rw [List.filter_eq_nil_iff]
    intro o' ho' hn
    exact hafter o' ho' (localBar_some.mp (beq_iff_eq.mp hn))
  rw [overrideFor, List.filter_append,
    List.filter_cons_of_pos (p := fun o : Override => localBar address o.bar == some n) named, others, List.getLast?_append]
  rfl

/-- A bar that no override names has none. -/
theorem overrideFor_none_iff {address : Nat} {os : List Override} {n : BarIx} :
    overrideFor address os n = none ↔ ∀ o ∈ os, o.bar.toNat ≠ (address - 1) * 16 + n.val := by
  simp only [overrideFor, List.getLast?_eq_none_iff, List.filter_eq_nil_iff, beq_iff_eq, localBar_some, ne_eq]

/-! ### What an expansion takes at its beginning (R46, R47) -/

theorem needsLookup_iff (s : State) (f : CourseFrame) (n : BarIx) :
    needsLookup s f n = true
      ↔ s.bars[n].mode = .motion ∧ ∀ o ∈ f.overrides, o.bar.toNat ≠ (s.ring.address - 1) * 16 + n.val := by
  rw [← overrideFor_none_iff, needsLookup, Bool.and_eq_true, beq_iff_eq, Option.isNone_iff_eq_none]

theorem firstPlan_excluded {s : State} {n : BarIx} (h : s.bars[n].mode ≠ .motion) (f : CourseFrame) :
    firstPlan s f n = excludedPlan := if_neg h

theorem firstPlan_override {s : State} {f : CourseFrame} {n : BarIx} (h : s.bars[n].mode = .motion) {o : Override}
    (ho : overrideFor s.ring.address f.overrides n = some o) :
    firstPlan s f n = clampedPlan .override o.lead.toNat o.trail.toNat s.bars[n].limit := by
  rw [firstPlan, if_pos h, ho]

/-- The plan of each bar as the expansion begins. -/
theorem expansionOf_plan (s : State) (ticket : Nat) (f : CourseFrame) (n : BarIx) :
    (expansionOf s ticket f).plans[n] = firstPlan s f n := by
  simp [expansionOf]

/-- The fetches by rising row word, each directly before its own lap entries (R48). -/
theorem fetchPlan_eq (needs : BarIx → Bool) :
    fetchPlan needs = (List.finRange 8).flatMap fun k =>
      (if needs (evenBar k) || needs (oddBar k) then [.rowWord k] else [])
        ++ (if needs (evenBar k) then [.lapEntry (evenBar k)] else [])
        ++ (if needs (oddBar k) then [.lapEntry (oddBar k)] else []) := by
  refine congrArg (fun g => (List.finRange 8).flatMap g) (funext fun k => ?_)
  cases hx : needs (evenBar k) <;> cases hy : needs (oddBar k) <;> simp [hx, hy]

/-! ### The first request to the arbiter (R23, R48) -/

section
variable {s : State} {ticket : Nat} {f : CourseFrame}

/-- The state with an expansion's first fetch presented, before the arbiter grants (R48). -/
def State.askExpansion (s : State) (ticket : Nat) (f : CourseFrame) : State :=
  { s with
    expander := { s.expander with job := some (expansionOf s ticket f) }
    store := { s.store with waitExpander := true } }

theorem State.beginExpansion_presents (h : (expansionOf s ticket f).todo ≠ []) :
    s.beginExpansion ticket f = (s.askExpansion ticket f).grant := by
  have : ¬ (expansionOf s ticket f).todo.isEmpty = true := by simpa using h
  rw [State.beginExpansion]
  exact if_neg this

/-- An expansion without a fetch asks for nothing. -/
theorem State.beginExpansion_noFetch (h : (expansionOf s ticket f).todo = []) :
    (s.beginExpansion ticket f).store = s.store := by
  rw [State.beginExpansion, h]
  rfl

/-- Behind an access in progress, and behind the clear, the first fetch waits. -/
theorem State.beginExpansion_waits (h : (expansionOf s ticket f).todo ≠ [])
    (held : s.store.access.isSome ∨ s.store.state = .clearing) :
    (s.beginExpansion ticket f).store = { s.store with waitExpander := true } := by
  rw [State.beginExpansion_presents h, State.grant_held (s := s.askExpansion ticket f) held]
  rfl

/-- A free store grants the first fetch at once. -/
theorem State.beginExpansion_granted {k : Fin 8} {rest : List Fetch}
    (h : (expansionOf s ticket f).todo = .rowWord k :: rest) (free : s.store.access = none) (ready : s.store.state = .ready) :
    (s.beginExpansion ticket f).store = { s.store with
      access := some { client := .expander, addr := (expansionOf s ticket f).rowBase + k.val, write := none, orphan := false }
      waitExpander := false } := by
  have next : (s.askExpansion ticket f).nextAccess .expander
      = some ⟨.expander, (expansionOf s ticket f).rowBase + k.val, none, false⟩ := by
    rw [State.nextAccess_expander rfl, h]
    rfl
  have candidate : (s.askExpansion ticket f).candidate = some .expander :=
    State.candidate_of rfl (by rw [next]; rfl) nofun nofun
  rw [State.beginExpansion_presents (by rw [h]; nofun),
    State.grant_takes (s := s.askExpansion ticket f) free ready candidate next]
  rfl

end

/-! ### The obligation -/

/-- Settles O37: the frame is handed over, passes, and its expansion is read off from what it takes. -/
theorem courseFrameExpands : Obligations.CourseFrameExpands := by
  intro s f active hjob hstaging hcheck
  have free : s.expansionWaits = false := by simp [State.expansionWaits, hjob, hstaging]
  have handed : State.handOver { s with ring := s.courseEntered f } s.ring.nextTicket f
      = State.beginExpansion { s with ring := s.courseEntered f } s.ring.nextTicket f := by
    have check : handOverCheck { s with ring := s.courseEntered f } f = none := hcheck
    rw [State.handOver, check]
  have done := (exec_courseFrame_handed active free f).trans (congrArg _ handed)
  have begun := State.beginExpansion_eq { s with ring := s.courseEntered f } s.ring.nextTicket f
  refine ⟨_, expansionOf { s with ring := s.courseEntered f } s.ring.nextTicket f, done, ?_, ?_,
    State.beginExpansion_noFetch, State.beginExpansion_waits, fun k rest => State.beginExpansion_granted, rfl, rfl, rfl, rfl,
    fun hb => ?_, fun hb => ?_, fun n => ?_, fun n hn => ?_, fun n before after o hn hos ho hafter => ?_,
    needsLookup { s with ring := s.courseEntered f } f, fun n => needsLookup_iff _ f n, fetchPlan_eq _⟩
  · rw [begun]
  · rw [begun]
  · have bank : bankOf f.bank = some .a := by rw [hb]; rfl
    simp only [expansionOf, bank]
    exact ⟨rfl, rfl⟩
  · have bank : bankOf f.bank = some .b := by rw [hb]; rfl
    simp only [expansionOf, bank]
    exact ⟨rfl, rfl⟩
  · simp [expansionOf]
  · rw [expansionOf_plan, firstPlan_excluded (s := { s with ring := s.courseEntered f }) hn]
    rfl
  · have last : overrideFor s.ring.address f.overrides n = some o := by
      rw [hos]
      exact overrideFor_last ho hafter
    rw [expansionOf_plan, firstPlan_override (s := { s with ring := s.courseEntered f }) hn last]
    exact ⟨rfl, rfl, rfl, clampedPlan_clamped _ _ _ _⟩

end Sys2Proof.Machine

-- ==== Corrupt frames (O39) ====
namespace Sys2Proof.Machine

/-! ### What a judgement says of the characters (R173, R174) -/

/-- A bad CRC is found of a frame received to its computed length alone. -/
theorem judge_badCrc {chars : List RxChar} (h : judge chars = .badCrc) :
    computedLength (chars.map RxChar.value) = some (chars.map RxChar.value).length
      ∧ judgeWhole (chars.map RxChar.value) = .badCrc := by
  unfold judge at h
  split at h
  · cases h
  · simp only [] at h
    split at h
    · cases h
    · split at h
      · cases h
      · split at h
        · cases h
        · split at h
          · cases h
          · next n hn =>
            split at h
            · cases h
            · split at h
              · cases h
              · split at h
                · refine ⟨?_, h⟩
                  rw [hn]
                  congr 1
                  omega
                · cases h

theorem getElem?_of_getD {cs : List Byte} {i : Nat} {b : Byte} (h : cs.getD i 0 = b) (hb : b ≠ 0) : cs[i]? = some b := by
  rw [List.getD_eq_getElem?_getD] at h
  cases hi : cs[i]? with
  | none =>
    rw [hi] at h
    exact absurd h.symm hb
  | some c =>
    rw [hi] at h
    exact congrArg some h

theorem getD_of_getElem? {cs : List Byte} {i : Nat} {b : Byte} (h : cs[i]? = some b) : cs.getD i 0 = b := by
  rw [List.getD_eq_getElem?_getD, h]
  rfl

/-- The computed length of a request (R173). -/
theorem computedLength_request {cs : List Byte} (h : cs.getD 1 0 = kindRequest) :
    computedLength cs = cs[11]?.map fun d => 16 + 2 * d.toNat := by
  have kind := getElem?_of_getD h (by decide)
  simp only [computedLength, kind]
  rw [if_neg (by decide), if_pos (Or.inl trivial)]

/-- A request whose CRC alone is bad was received to its computed length, with 32 data words at most. -/
theorem badCrc_request {chars : List RxChar} (h : judge chars = .badCrc)
    (hk : (chars.map RxChar.value).getD 1 0 = kindRequest) :
    (chars.map RxChar.value).length = 16 + 2 * ((chars.map RxChar.value).getD 11 0).toNat
      ∧ ((chars.map RxChar.value).getD 11 0).toNat ≤ 32 := by
  obtain ⟨length, whole⟩ := judge_badCrc h
  generalize chars.map RxChar.value = cs at *
  rw [computedLength_request hk] at length
  obtain ⟨d, hd, len⟩ := Option.map_eq_some_iff.mp length
  refine ⟨by rw [getD_of_getElem? hd, ← len], ?_⟩
  by_contra big
  have broken : judgeWhole cs = .broken := by
    unfold judgeWhole
    refine if_pos ⟨?_, by omega⟩
    rw [hk]
    decide
  rw [broken] at whole
  cases whole

/-- A request that broke off before its data count is short (R173). -/
theorem judge_request_short {chars : List RxChar} (hk : (chars.map RxChar.value).getD 1 0 = kindRequest)
    (hl : (chars.map RxChar.value).length < 12) : judge chars = .noFrame ∨ judge chars = .short := by
  have kind := getElem?_of_getD hk (by decide)
  have length : computedLength (chars.map RxChar.value) = none := by
    rw [computedLength_request hk, List.getElem?_eq_none (by omega)]
    rfl
  unfold judge
  split
  · exact Or.inl rfl
  · simp only []
    split
    · exact Or.inl rfl
    · right
      simp only [kind, length]
      rw [if_neg (by decide)]

/-! ### What a corrupt frame is sent as (R176) -/

theorem corruptForm_marked {j : Judgement} (h : j = .broken ∨ j = .marked ∨ j = .badCrc) (cs : List Byte) :
    corruptForm j cs = cs.dropLast ++ [255] := by
  rcases h with rfl | rfl | rfl <;> rfl

/-! ### A request read back as a reply (R179) -/

theorem getD_drop (cs : List Byte) (k i : Nat) : (cs.drop k).getD i 0 = cs.getD (k + i) 0 := by
  simp only [List.getD_eq_getElem?_getD, List.getElem?_drop]

/-- The data words' characters are read and written back. -/
theorem dataBytes_parseWords {n : Nat} {cs : List Byte} (h : 2 * n ≤ cs.length) :
    dataBytes (parseWords n cs) = cs.take (2 * n) ∧ (parseWords n cs).length = n := by
  induction n generalizing cs with
  | zero => exact ⟨rfl, rfl⟩
  | succ n ih =>
    match cs, h with
    | [], h => simp at h
    | [_], h => simp at h; omega
    | hi :: lo :: rest, h =>
      obtain ⟨bytes, length⟩ := ih (cs := rest) (by simp at h; omega)
      refine ⟨?_, by rw [parseWords, List.length_cons, length]⟩
      have high : hiByte (wordOf hi lo) = hi := BitVec.extractLsb'_append_eq_left
      have low : loByte (wordOf hi lo) = lo := BitVec.extractLsb'_append_eq_right
      have split : dataBytes (parseWords (n + 1) (hi :: lo :: rest)) = hi :: lo :: dataBytes (parseWords n rest) := by
        show hiByte (wordOf hi lo) :: loByte (wordOf hi lo) :: dataBytes (parseWords n rest) = _
        rw [high, low]
      rw [split, bytes]
      rfl

/-- A request as received, as a reply with a result slot. -/
def replySeen (cs : List Byte) (slot : Byte) : ServiceFrame := { requestSeen cs with reply := true, slot := slot }

/-- Received whole, its characters from the destination to the data words go on as received. -/
theorem serviceBody_replySeen {cs : List Byte} (h : cs.length = 16 + 2 * (cs.getD 11 0).toNat) (slot : Byte) :
    serviceBody (replySeen cs slot) = 3 :: (cs.drop 2).take (cs.length - 6) ++ [slot] := by
  match cs, h with
  | c0 :: c1 :: c2 :: c3 :: c4 :: c5 :: c6 :: c7 :: c8 :: c9 :: c10 :: c11 :: rest, h =>
    have count : (c0 :: c1 :: c2 :: c3 :: c4 :: c5 :: c6 :: c7 :: c8 :: c9 :: c10 :: c11 :: rest).getD 11 0 = c11 := rfl
    rw [count] at h
    have room : rest.length = 4 + 2 * c11.toNat := by simp only [List.length_cons] at h; omega
    obtain ⟨bytes, length⟩ := dataBytes_parseWords (n := c11.toNat) (cs := rest) (by omega)
    have body : serviceBody (replySeen (c0 :: c1 :: c2 :: c3 :: c4 :: c5 :: c6 :: c7 :: c8 :: c9 :: c10 :: c11 :: rest) slot)
        = [3, c2, c3, c4, c5, c6, c7, c8, c9, c10, BitVec.ofNat 8 (parseWords c11.toNat rest).length]
          ++ dataBytes (parseWords c11.toNat rest) ++ [slot] := rfl
    have taken : [c2, c3, c4, c5, c6, c7, c8, c9, c10, c11] ++ rest.take (2 * c11.toNat)
        = ([c2, c3, c4, c5, c6, c7, c8, c9, c10, c11] ++ rest).take (10 + 2 * c11.toNat) :=
      (List.take_length_add_append (2 * c11.toNat)).symm
    have all : 16 + 2 * c11.toNat - 6 = 10 + 2 * c11.toNat := by omega
    rw [body, bytes, length, BitVec.ofNat_toNat, BitVec.setWidth_eq, h, all]
    exact congrArg (fun l => 3 :: l ++ [slot]) taken

theorem requestSeen_op (cs : List Byte) : (requestSeen cs).op = cs.getD 4 0 := getD_drop cs 1 3

theorem requestSeen_dest (cs : List Byte) : (requestSeen cs).dest = cs.getD 2 0 := getD_drop cs 1 1

theorem requestSeen_args (cs : List Byte) : (requestSeen cs).args
    = ⟨cs.getD 5 0, cs.getD 6 0, cs.getD 7 0, cs.getD 8 0, cs.getD 9 0, cs.getD 10 0⟩ := by
  simp only [requestSeen, parseService, getD_drop]

theorem requestSeen_slot {cs : List Byte} (h : cs.length = 16 + 2 * (cs.getD 11 0).toNat) :
    (requestSeen cs).slot = cs.getD (cs.length - 4) 0 := by
  have place : cs.length - 4 = 1 + (11 + 2 * (cs.getD 11 0).toNat) := by omega
  rw [place, ← getD_drop]
  simp only [requestSeen, parseService, getD_drop]

theorem requestSeen_data {cs : List Byte} (h : cs.length = 16 + 2 * (cs.getD 11 0).toNat) :
    (requestSeen cs).data.length = (cs.getD 11 0).toNat := by
  have data : (requestSeen cs).data = parseWords (cs.getD 11 0).toNat ((cs.drop 1).drop 11) := by
    simp only [requestSeen, parseService, getD_drop]
  rw [data]
  refine (dataBytes_parseWords ?_).2
  simp only [List.length_drop]
  omega

theorem word24Of_toNat (hi mid lo : Byte) :
    (word24Of hi mid lo).toNat = hi.toNat * 65536 + mid.toNat * 256 + lo.toNat := by
  simp only [word24Of, BitVec.toNat_append]
  rw [← Nat.shiftLeft_add_eq_or_of_lt mid.isLt, ← Nat.shiftLeft_add_eq_or_of_lt lo.isLt]
  simp only [Nat.shiftLeft_eq]
  omega

/-- A start address and a count read from four bytes are written back as they were (R186). -/
theorem rangeArgs_word24Of (a : Args) : rangeArgs (word24Of a.a0 a.a1 a.a2) a.a3 a = a := by
  have value := word24Of_toNat a.a0 a.a1 a.a2
  have h0 := a.a0.isLt
  have h1 := a.a1.isLt
  have h2 := a.a2.isLt
  have byte : ∀ k (b : Byte), (word24Of a.a0 a.a1 a.a2).toNat / 2 ^ k % 2 ^ 8 = b.toNat →
      (word24Of a.a0 a.a1 a.a2).extractLsb' k 8 = b := fun k b h => by
    apply BitVec.eq_of_toNat_eq
    rw [BitVec.extractLsb'_toNat, Nat.shiftRight_eq_div_pow, h]
  rw [rangeArgs, byte 16 a.a0 (by omega), byte 8 a.a1 (by omega), byte 0 a.a2 (by omega)]

/-- The frame of a request sent as a reply with mark 255 (R176, R179). -/
theorem frameOf_replySeen {cs : List Byte} (h : cs.length = 16 + 2 * (cs.getD 11 0).toNat) (slot : Byte) (check : Word) :
    frameOf (serviceBody (replySeen cs slot)) check markCorrupt
      = [165, 3] ++ (cs.drop 2).take (cs.length - 6) ++ [slot, hiByte check, loByte check, 255] := by
  rw [serviceBody_replySeen h]
  simp only [frameOf, startChar, markCorrupt, List.cons_append, List.append_assoc, List.nil_append]

/-- A reply marked for a bad CRC, to an operation whose bytes are those received: its result slot alone is rewritten. -/
theorem markedReply_chars {cs : List Byte} (h : cs.length = 16 + 2 * (cs.getD 11 0).toNat) {address : Nat}
    (hd : (cs.getD 2 0).toNat = address) {op : ServiceOp} (hop : opByte op = cs.getD 4 0)
    (hargs : argsOf op (requestSeen cs).args = (requestSeen cs).args) (r : Result) :
    ∃ hi lo, (Reply.only r).chars .marked address op (envelopeOf (requestSeen cs))
      = [165, 3] ++ (cs.drop 2).take (cs.length - 6) ++ [r.byte, hi, lo, 255] := by
  have frame : (Reply.only r).frame address op (envelopeOf (requestSeen cs)) = replySeen cs r.byte := by
    have dest : BitVec.ofNat 8 address = (requestSeen cs).dest := by
      rw [requestSeen_dest, ← hd, BitVec.ofNat_toNat, BitVec.setWidth_eq]
    unfold Reply.frame replySeen
    rw [dest, hop, ← requestSeen_op]
    exact congrArg (fun a => { requestSeen cs with reply := true, slot := r.byte, args := (Reply.only r).args a }) hargs
  simp only [Reply.chars, frame, frameOf_replySeen h]
  exact ⟨_, _, rfl⟩

/-! ### A corrupt request for this node (R179) -/

theorem decodeOp_load (a : Args) : decodeOp 1 a = .load (word24Of a.a0 a.a1 a.a2) a.a3 := rfl

theorem decodeOp_read (a : Args) : decodeOp 2 a = .read (word24Of a.a0 a.a1 a.a2) a.a3 := rfl

theorem opByte_ite {p : Prop} [Decidable p] {x y : ServiceOp} {b : Byte} (hx : p → opByte x = b) (hy : ¬ p → opByte y = b) :
    opByte (if p then x else y) = b := by
  split
  · next h => exact hx h
  · next h => exact hy h

theorem opByte_decodeSetParam (a : Args) : opByte (decodeSetParam a) = 3 := by
  unfold decodeSetParam
  repeat refine opByte_ite (fun _ => rfl) fun _ => ?_
  rfl

/-- An op byte is that of the operation it is read as (12.2). -/
theorem opByte_decodeOp (op : Byte) (a : Args) : opByte (decodeOp op a) = op := by
  unfold decodeOp
  refine opByte_ite Eq.symm fun _ => opByte_ite Eq.symm fun _ =>
    opByte_ite (fun h => (opByte_decodeSetParam a).trans h.symm) fun _ => ?_
  repeat refine opByte_ite Eq.symm fun _ => ?_
  rfl

/-- The READ that a corrupt request asks for (entry 28). -/
def corruptRead (ticket : Nat) (j : Judgement) (cs : List Byte) : Deferred :=
  { op := .read (word24Of (cs.getD 5 0) (cs.getD 6 0) (cs.getD 7 0)) (cs.getD 8 0)
    env := paddedEnvelope (envelopeOf (requestSeen cs)) (cs.getD 11 0).toNat
    ticket := ticket
    form := if j = .badCrc then .marked else .fixed (corruptForm j cs) }

section
variable (s : State) (ticket : Nat) (j : Judgement) {cs : List Byte}

/-- A READ whose arguments and data count were received makes its reads. -/
theorem State.corruptAddressed_read (hop : cs.getD 4 0 = 2) (hl : 12 ≤ cs.length) :
    s.corruptAddressed ticket j cs = s.takeOrDefer (corruptRead ticket j cs) := by
  simp only [State.corruptAddressed, requestSeen_op, requestSeen_args, hop, decodeOp_read, if_pos hl]
  rfl

/-- A READ that broke off before makes none. -/
theorem State.corruptAddressed_shortRead (hop : cs.getD 4 0 = 2) (hl : cs.length < 12) :
    s.corruptAddressed ticket j cs = s.release ticket (corruptForm j cs) := by
  simp only [State.corruptAddressed, requestSeen_op, hop, decodeOp_read, if_neg (Nat.not_le.mpr hl)]

/-- A LOAD is examined and stages nothing. -/
theorem State.corruptAddressed_load (hop : cs.getD 4 0 = 1) :
    s.corruptAddressed ticket j cs = s.answer ticket (if j = .badCrc then .marked else .fixed (corruptForm j cs))
      (.load (word24Of (cs.getD 5 0) (cs.getD 6 0) (cs.getD 7 0)) (cs.getD 8 0)) (envelopeOf (requestSeen cs))
      (.only (loadResult s (word24Of (cs.getD 5 0) (cs.getD 6 0) (cs.getD 7 0)) (cs.getD 8 0)
        (requestSeen cs).data.length)) := by
  simp only [State.corruptAddressed, requestSeen_op, requestSeen_args, hop, decodeOp_load]
  rfl

/-- No other operation is taken. -/
theorem State.corruptAddressed_other (h1 : cs.getD 4 0 ≠ 1) (h2 : cs.getD 4 0 ≠ 2) :
    s.corruptAddressed ticket j cs = s.release ticket
      (if j = .badCrc then frameOf (serviceBody (replySeen cs (requestSeen cs).slot))
          (Config.markedReplyCrc (serviceBody (replySeen cs (requestSeen cs).slot))) markCorrupt
        else corruptForm j cs) := by
  have byte := opByte_decodeOp (requestSeen cs).op (requestSeen cs).args
  unfold State.corruptAddressed
  simp only []
  generalize decodeOp (requestSeen cs).op (requestSeen cs).args = op at *
  rw [requestSeen_op] at byte
  cases op
  case load => exact absurd byte.symm h1
  case read => exact absurd byte.symm h2
  all_goals
    simp only []
    split <;> rfl

/-- What a request whose CRC alone is bad is sent as, unless it is a READ: a LOAD with the result it was examined to, any
other with its result slot as received (R179). -/
def State.markedForm (cs : List Byte) : List Byte :=
  if cs.getD 4 0 = 1 then
    (Reply.only (loadResult s (word24Of (cs.getD 5 0) (cs.getD 6 0) (cs.getD 7 0)) (cs.getD 8 0)
      (requestSeen cs).data.length)).chars .marked s.ring.address
      (.load (word24Of (cs.getD 5 0) (cs.getD 6 0) (cs.getD 7 0)) (cs.getD 8 0)) (envelopeOf (requestSeen cs))
  else
    frameOf (serviceBody (replySeen cs (requestSeen cs).slot))
      (Config.markedReplyCrc (serviceBody (replySeen cs (requestSeen cs).slot))) markCorrupt

/-- A corrupt request that makes no reads is sent at once, and nothing else is done. -/
theorem State.corruptAddressed_released (hr : cs.getD 4 0 = 2 → cs.length < 12 ∧ j ≠ .badCrc) :
    s.corruptAddressed ticket j cs
      = s.release ticket (if j = .badCrc then s.markedForm cs else corruptForm j cs) := by
  by_cases h2 : cs.getD 4 0 = 2
  · obtain ⟨length, crc⟩ := hr h2
    rw [s.corruptAddressed_shortRead ticket j h2 length, if_neg crc]
  · by_cases h1 : cs.getD 4 0 = 1
    · rw [s.corruptAddressed_load ticket j h1, State.markedForm, if_pos h1, State.answer]
      split <;> rfl
    · rw [s.corruptAddressed_other ticket j h1 h2, State.markedForm, if_neg h1]

end

/-- A request whose CRC alone is bad goes on as received but for its result slot, its CRC and its mark. -/
theorem State.markedForm_chars (s : State) {cs : List Byte} (h : cs.length = 16 + 2 * (cs.getD 11 0).toNat)
    (hd : (cs.getD 2 0).toNat = s.ring.address) :
    ∃ slot hi lo, s.markedForm cs = [165, 3] ++ (cs.drop 2).take (cs.length - 6) ++ [slot, hi, lo, 255]
      ∧ (cs.getD 4 0 ≠ 1 → slot = cs.getD (cs.length - 4) 0)
      ∧ (cs.getD 4 0 = 1 → slot = (loadResult s (word24Of (cs.getD 5 0) (cs.getD 6 0) (cs.getD 7 0)) (cs.getD 8 0)
          (cs.getD 11 0).toNat).byte) := by
  unfold State.markedForm
  split
  · next h1 =>
    have args : argsOf (.load (word24Of (cs.getD 5 0) (cs.getD 6 0) (cs.getD 7 0)) (cs.getD 8 0)) (requestSeen cs).args
        = (requestSeen cs).args := by
      rw [requestSeen_args]
      exact rangeArgs_word24Of ⟨cs.getD 5 0, cs.getD 6 0, cs.getD 7 0, cs.getD 8 0, cs.getD 9 0, cs.getD 10 0⟩
    rw [requestSeen_data h]
    have byte : opByte (.load (word24Of (cs.getD 5 0) (cs.getD 6 0) (cs.getD 7 0)) (cs.getD 8 0)) = cs.getD 4 0 := h1.symm
    obtain ⟨hi, lo, chars⟩ := markedReply_chars h hd byte args (loadResult s _ _ (cs.getD 11 0).toNat)
    exact ⟨_, hi, lo, chars, fun n1 => absurd h1 n1, fun _ => rfl⟩
  · next h1 =>
    exact ⟨_, _, _, frameOf_replySeen h _ _, fun _ => requestSeen_slot h, fun e => absurd e h1⟩

/-- The ring once a frame's characters have arrived: the frame is held. -/
def State.entered (s : State) (cs : List Byte) : State := { s with ring := s.ring.startSeen.enter cs }

theorem corruptRequest_iff (r : Ring) (cs : List Byte) :
    corruptRequest r cs = true ↔ cs.getD 1 0 = 2 ∧ (cs.getD 2 0).toNat = r.straps.toNat + 1 := by
  simp only [corruptRequest, Bool.and_eq_true, beq_iff_eq, Ring.address, kindRequest]

section
variable {s : State} {chars : List RxChar}

/-- Characters that begin no frame are discarded (R173). -/
theorem exec_corruptFrame_noFrame (active : s.inReset = false) (hj : judge chars = .noFrame) :
    exec (.corruptFrame chars) s = .next s := by
  show Host.Outcome.next (s.receive chars) = _
  simp only [State.receive, active, hj, Bool.false_eq_true, if_false]

/-- Any other corrupt frame is held, and handled as one if it is a request for this node (R176). -/
theorem exec_corruptFrame_corrupt (active : s.inReset = false) (corrupt : (judge chars).isClean = false)
    (hj : judge chars ≠ .noFrame) :
    exec (.corruptFrame chars) s = .next (if corruptRequest s.ring (chars.map RxChar.value) then
      (s.entered (chars.map RxChar.value)).corruptAddressed s.ring.nextTicket (judge chars) (chars.map RxChar.value)
      else (s.entered (chars.map RxChar.value)).release s.ring.nextTicket
        (corruptForm (judge chars) (chars.map RxChar.value))) := by
  show Host.Outcome.next (s.receive chars) = _
  congr 1
  unfold State.receive
  rw [if_neg (by simp [active])]
  split
  next h => exact absurd h hj
  next f h => rw [h] at corrupt; cases corrupt
  next f h => rw [h] at corrupt; cases corrupt
  next => rfl

end

/-! ### The READ of a corrupt request -/

/-- A READ that a free path takes changes of the store the access, the service path's request and the READ. -/
theorem State.askRead_grant_store {s : State} (r : ReadJob) (staging : s.store.staging = []) (job : s.expander.job = none) :
    ∃ access wait, (s.askRead r).grant.store
      = { s.store with access := access, waitService := wait, read := some r } := by
  by_cases held : (s.askRead r).store.access.isSome ∨ (s.askRead r).store.state = .clearing
  · rw [State.grant_held held]
    exact ⟨_, _, rfl⟩
  · obtain ⟨busy, clearing⟩ := not_or.mp held
    have free : (s.askRead r).store.access = none := Option.not_isSome_iff_eq_none.mp busy
    have ready : (s.askRead r).store.state = .ready := by
      cases h : (s.askRead r).store.state with
      | clearing => exact absurd h clearing
      | ready => rfl
    have access : (s.askRead r).nextAccess .service = some ⟨.service, r.start + r.words.length, none, false⟩ :=
      State.nextAccess_read staging
    have candidate : (s.askRead r).candidate = some .service :=
      State.candidate_of rfl (by rw [access]; rfl) (fun _ => Or.inr (State.nextAccess_expander_none job))
        (fun h => by cases h)
    rw [State.grant_takes free ready candidate access]
    exact ⟨_, _, rfl⟩

theorem State.mustDefer_false {s : State} (h : s.mustDefer = false) :
    s.store.staging = [] ∧ s.expander.job = none := by
  have free := mt (State.mustDefer_iff s).mpr (by simp [h])
  simp only [not_or, not_not] at free
  exact ⟨free.1, free.2.2.1⟩

/-- A READ that is held, refused or begun acts on the ring port and the service path alone. -/
theorem State.takeOrDefer_read_frame (s : State) {d : Deferred} {start : BitVec 24} {count : Byte}
    (hop : d.op = .read start count) :
    ∃ ring access wait read, s.takeOrDefer d = { s with
      ring := ring, store := { s.store with access := access, waitService := wait, read := read } }
      ∧ ring.up = s.ring.up := by
  cases hd : s.mustDefer with
  | true =>
    rw [State.takeOrDefer, if_pos hd]
    exact ⟨_, _, _, _, rfl, rfl⟩
  | false =>
    rw [State.takeOrDefer, if_neg (by simp [hd])]
    cases hr : readRefusal s start count d.env.data.length with
    | some r =>
      rw [State.takeRequest_readRefused hop hr]
      exact ⟨_, _, _, _, rfl, rfl⟩
    | none =>
      obtain ⟨staging, job⟩ := State.mustDefer_false hd
      obtain ⟨access, wait, store⟩ := State.askRead_grant_store (d.readJob start count) staging job
      rw [State.takeRequest_readBegun hop hr, State.grant_eq, store]
      exact ⟨_, _, _, _, rfl, rfl⟩

/-- Received whole, a request's data words are those its data count says. -/
theorem paddedEnvelope_whole {cs : List Byte} (h : cs.length = 16 + 2 * (cs.getD 11 0).toNat) :
    paddedEnvelope (envelopeOf (requestSeen cs)) (cs.getD 11 0).toNat = envelopeOf (requestSeen cs) := by
  have data : (envelopeOf (requestSeen cs)).data.length = (cs.getD 11 0).toNat := requestSeen_data h
  rw [paddedEnvelope, data, Nat.sub_self, List.replicate_zero, List.append_nil]

section
variable {s : State} {cs : List Byte} (whole : cs.length = 16 + 2 * (cs.getD 11 0).toNat) (free : s.mustDefer = false)
include whole free

/-- A refused READ whose CRC alone is bad is sent as a reply with mark 255 and its result. -/
theorem State.corruptRead_refused (hd : (cs.getD 2 0).toNat = s.ring.address) (hop : cs.getD 4 0 = 2) (ticket : Nat)
    {r : Result} (hr : readRefusal s (word24Of (cs.getD 5 0) (cs.getD 6 0) (cs.getD 7 0)) (cs.getD 8 0)
      (cs.getD 11 0).toNat = some r) :
    ∃ hi lo, s.takeOrDefer (corruptRead ticket .badCrc cs)
      = s.release ticket ([165, 3] ++ (cs.drop 2).take (cs.length - 6) ++ [r.byte, hi, lo, 255]) := by
  have env : (corruptRead ticket .badCrc cs).env = envelopeOf (requestSeen cs) := paddedEnvelope_whole whole
  have refused : readRefusal s (word24Of (cs.getD 5 0) (cs.getD 6 0) (cs.getD 7 0)) (cs.getD 8 0)
      (corruptRead ticket .badCrc cs).env.data.length = some r := by
    rw [env]
    exact (congrArg (readRefusal s _ _) (requestSeen_data whole)).trans hr
  have byte : opByte (corruptRead ticket .badCrc cs).op = cs.getD 4 0 := hop.symm
  have args : argsOf (corruptRead ticket .badCrc cs).op (requestSeen cs).args = (requestSeen cs).args := by
    rw [requestSeen_args]
    exact rangeArgs_word24Of ⟨cs.getD 5 0, cs.getD 6 0, cs.getD 7 0, cs.getD 8 0, cs.getD 9 0, cs.getD 10 0⟩
  obtain ⟨hi, lo, sent⟩ := markedReply_chars whole hd byte args r
  refine ⟨hi, lo, ?_⟩
  rw [State.takeOrDefer, if_neg (by simp [free]), State.takeRequest_readRefused rfl refused, State.answer, env, ← sent]
  rfl

/-- A READ whose CRC alone is bad and that is not refused begins its reads. -/
theorem State.corruptRead_begun (ticket : Nat) (hr : readRefusal s (word24Of (cs.getD 5 0) (cs.getD 6 0) (cs.getD 7 0))
      (cs.getD 8 0) (cs.getD 11 0).toNat = none) :
    s.takeOrDefer (corruptRead ticket .badCrc cs) = (s.askRead ((corruptRead ticket .badCrc cs).readJob
      (word24Of (cs.getD 5 0) (cs.getD 6 0) (cs.getD 7 0)) (cs.getD 8 0))).grant := by
  have env : (corruptRead ticket .badCrc cs).env = envelopeOf (requestSeen cs) := paddedEnvelope_whole whole
  have taken : readRefusal s (word24Of (cs.getD 5 0) (cs.getD 6 0) (cs.getD 7 0)) (cs.getD 8 0)
      (corruptRead ticket .badCrc cs).env.data.length = none := by
    rw [env]
    exact (congrArg (readRefusal s _ _) (requestSeen_data whole)).trans hr
  rw [State.takeOrDefer, if_neg (by simp [free]), State.takeRequest_readBegun rfl taken]

end

/-- The result that a LOAD is examined to, as a code. -/
theorem loadResult_byte {s : State} {start : BitVec 24} {count : Byte} {n : Nat} {bad busy : Prop} [Decidable bad]
    [Decidable busy] (hbad : rangeBad start count n = true ↔ bad)
    (hbusy : ¬ bad → (s.store.state = .clearing ∨ meetsComputing s start.toNat count.toNat = true ↔ busy)) :
    (loadResult s start count n).byte = if bad then 5 else if busy then 6 else 1 := by
  by_cases b : bad
  · rw [if_pos b, loadResult_range (hbad.mpr b)]
    rfl
  · have range : rangeBad start count n = false := Bool.eq_false_iff.mpr (mt hbad.mp b)
    rw [if_neg b]
    cases hs : s.store.state with
    | clearing =>
      rw [if_pos ((hbusy b).mp (Or.inl hs)), loadResult_clearing range hs]
      rfl
    | ready =>
      rw [loadResult_ready range hs]
      cases hm : meetsComputing s start.toNat count.toNat with
      | true =>
        rw [if_pos ((hbusy b).mp (Or.inr hm))]
        rfl
      | false =>
        rw [if_neg (mt (hbusy b).mpr (by simp [hs, hm]))]
        rfl

/-- A corrupt frame that makes no reads is sent at once, and nothing else is done. -/
theorem State.corrupt_released {s : State} {chars : List RxChar} {cs : List Byte} (hcs : chars.map RxChar.value = cs)
    (hj : judge chars ≠ .noFrame)
    (hr : ¬ ((cs.getD 1 0 = 2 ∧ (cs.getD 2 0).toNat = s.ring.straps.toNat + 1) ∧ cs.getD 4 0 = 2 ∧ 12 ≤ cs.length)) :
    (if corruptRequest s.ring cs then (s.entered cs).corruptAddressed s.ring.nextTicket (judge chars) cs
      else (s.entered cs).release s.ring.nextTicket (corruptForm (judge chars) cs))
    = (s.entered cs).release s.ring.nextTicket (if judge chars = .badCrc ∧ corruptRequest s.ring cs = true then
        (s.entered cs).markedForm cs else corruptForm (judge chars) cs) := by
  subst hcs
  by_cases request : corruptRequest s.ring (chars.map RxChar.value) = true
  · have mine := (corruptRequest_iff _ _).mp request
    rw [if_pos request, State.corruptAddressed_released]
    · simp only [request, and_true]
    · intro op
      have length : (chars.map RxChar.value).length < 12 := by
        by_contra long
        exact hr ⟨mine, op, by omega⟩
      refine ⟨length, ?_⟩
      rcases judge_request_short mine.1 length with h | h
      · exact absurd h hj
      · rw [h]
        decide
  · rw [if_neg request, if_neg (fun h => request h.2)]

/-! ### The obligation -/

/-- Settles O39: the judgement decides whether anything is sent; then a READ of this node's is followed through its three
fates, and every other frame is sent at once in the form its judgement asks for. -/
theorem corruptFramesActOnNothing : Obligations.CorruptFramesActOnNothing := by
  unfold Obligations.CorruptFramesActOnNothing
  intro s chars active corrupt cs mine reads start count badRange meets entered replied
  by_cases none : judge chars = .noFrame
  · refine ⟨s, exec_corruptFrame_noFrame active none, rfl, rfl, rfl, fun _ => rfl, fun _ => rfl, fun h => absurd none h,
      fun h => ?_⟩
    rw [none] at h
    cases h
  have run := exec_corruptFrame_corrupt active corrupt none
  have startValue : (word24Of (cs.getD 5 0) (cs.getD 6 0) (cs.getD 7 0)).toNat = start := word24Of_toNat _ _ _
  have range : rangeBad (word24Of (cs.getD 5 0) (cs.getD 6 0) (cs.getD 7 0)) (cs.getD 8 0) (cs.getD 11 0).toNat = true
      ↔ badRange := by
    rw [rangeBad_iff, startValue]
  by_cases hreads : reads
  · obtain ⟨request, op, length⟩ := hreads
    rw [if_pos ((corruptRequest_iff _ _).mpr request), State.corruptAddressed_read _ _ _ op length] at run
    obtain ⟨ring, access, wait, read, after, up⟩ := State.takeOrDefer_read_frame (s.entered cs)
      (d := corruptRead s.ring.nextTicket (judge chars) cs) rfl
    refine ⟨_, run, by rw [after]; rfl, by rw [after]; exact up, by rw [after]; rfl,
      fun h => absurd ⟨request, op, length⟩ h, fun h => absurd h none, fun _ h => absurd ⟨request, op, length⟩ h, ?_⟩
    intro crc _ staging noRead job deferred
    obtain ⟨whole, -⟩ := badCrc_request crc request.1
    have free : (s.entered cs).mustDefer = false := by
      rw [← Bool.not_eq_true, State.mustDefer_iff]
      exact fun h => h.elim (absurd staging) fun h => h.elim (absurd noRead) fun h => h.elim (absurd job) (absurd deferred)
    rw [crc]
    refine ⟨fun refused => ?_, fun good ready => ?_⟩
    · by_cases bad : badRange
      · rw [if_pos bad]
        obtain ⟨hi, lo, sent⟩ := State.corruptRead_refused whole free request.2 op s.ring.nextTicket
          (readRefusal_range (range.mpr bad))
        exact ⟨hi, lo, sent⟩
      · rw [if_neg bad]
        obtain ⟨hi, lo, sent⟩ := State.corruptRead_refused whole free request.2 op s.ring.nextTicket
          (readRefusal_clearing (Bool.eq_false_iff.mpr (mt range.mp bad)) (refused.resolve_left bad))
        exact ⟨hi, lo, sent⟩
    · rw [State.corruptRead_begun whole free s.ring.nextTicket
        (readRefusal_ready (Bool.eq_false_iff.mpr (mt range.mp good)) ready)]
      obtain ⟨access, wait, store⟩ := State.askRead_grant_store ((corruptRead s.ring.nextTicket .badCrc cs).readJob
        (word24Of (cs.getD 5 0) (cs.getD 6 0) (cs.getD 7 0)) (cs.getD 8 0)) (s := s.entered cs) staging job
      refine ⟨State.grant_ring _, _, by rw [store], startValue, rfl, rfl, rfl, rfl, rfl⟩
  · rw [State.corrupt_released rfl none hreads] at run
    refine ⟨_, run, rfl, rfl, rfl, fun _ => rfl, fun h => absurd h none, fun _ _ => ⟨_, rfl, ?_, ?_, ?_, ?_⟩,
      fun _ h => absurd h hreads⟩
    · intro short
      rw [short]
      rfl
    · intro n long
      rw [long]
      rfl
    · intro marked
      have plain : ¬ (judge chars = .badCrc ∧ corruptRequest s.ring cs = true) := by
        rintro ⟨crc, request⟩
        rcases marked with h | h | ⟨-, notMine⟩
        · rw [h] at crc; cases crc
        · rw [h] at crc; cases crc
        · exact notMine ((corruptRequest_iff _ _).mp request)
      rw [if_neg plain]
      exact corruptForm_marked (marked.imp_right (Or.imp_right And.left)) cs
    · intro crc request
      obtain ⟨whole, -⟩ := badCrc_request crc request.1
      rw [if_pos ⟨crc, (corruptRequest_iff _ _).mpr request⟩]
      obtain ⟨slot, hi, lo, sent, other, load⟩ := (s.entered cs).markedForm_chars whole request.2
      refine ⟨slot, hi, lo, sent, other, fun op => (load op).trans (loadResult_byte range fun good => or_congr_right ?_)⟩
      rw [startValue]
      exact meetsComputing_iff (s.entered cs) (Nat.le_of_not_lt fun h => good (Or.inl h))

end Sys2Proof.Machine


-- ==== One bar kept in agreement with its motion (O59) ====
namespace Sys2Proof.Machine

/-! ### One bar's record (R112 to R118) -/

/-- A bar's record in agreement with its motion, and inside its travel (R112, R113, R116). -/
def Bar.sound (b : Bar) (spn : Nat) : Prop := b.inv ∧ b.withinTravel spn

theorem Bar.initial_sound (spn : Nat) : Bar.initial.sound spn := ⟨Bar.initial_inv, nofun⟩

/-- A bar that is STILL is sound with its target at its position, inside its travel when it is referenced. -/
theorem Bar.sound_still {b : Bar} {spn : Nat} (hm : b.motion = .still) (ht : b.target = b.pos) (hn : b.next = none)
    (hr : b.referenced = true → b.pos ≤ b.limit * spn) (hu : b.referenced = false → b.pos = 0) : b.sound spn := by
  refine ⟨⟨fun h => ⟨hu h, ht.trans (hu h), hn⟩, ?_⟩, fun h => ⟨hr h, ht ▸ hr h, ?_⟩⟩
  · rw [hm]
    exact ⟨ht, hn⟩
  · rw [hn]
    nofun

theorem Bar.sound.still {b : Bar} {spn : Nat} (h : b.sound spn) (hm : b.motion = .still) :
    b.target = b.pos ∧ b.next = none := by
  obtain ⟨⟨-, hmotion⟩, -⟩ := h
  rw [hm] at hmotion
  exact hmotion

theorem Bar.sound.moving {b : Bar} {spn : Nat} (h : b.sound spn) {m : Move} (hm : b.motion = .moving m) :
    m.emitted ≤ m.steps ∧ (b.referenced = true → if m.up then b.target = b.pos + (m.steps - m.emitted)
      else b.pos = b.target + (m.steps - m.emitted)) := by
  obtain ⟨⟨-, hmotion⟩, -⟩ := h
  rw [hm] at hmotion
  exact hmotion

theorem Bar.sound.searching {b : Bar} {spn : Nat} (h : b.sound spn) {x : Search} (hm : b.motion = .searching x) :
    b.mode = .jog ∧ b.next = none := by
  obtain ⟨⟨-, hmotion⟩, -⟩ := h
  rw [hm] at hmotion
  exact hmotion

theorem Bar.sound.unreferenced {b : Bar} {spn : Nat} (h : b.sound spn) (hu : b.referenced = false) :
    b.pos = 0 ∧ b.target = 0 ∧ b.next = none := by
  obtain ⟨⟨unreferenced, -⟩, -⟩ := h
  exact unreferenced hu

theorem Bar.sound.travel {b : Bar} {spn : Nat} (h : b.sound spn) (hr : b.referenced = true) :
    b.pos ≤ b.limit * spn ∧ b.target ≤ b.limit * spn ∧ ∀ t, b.next = some t → t ≤ b.limit * spn := by
  obtain ⟨-, travel⟩ := h
  exact travel hr

theorem Bar.not_busy {b : Bar} : b.busy = false ↔ b.motion = .still := by
  cases hm : b.motion <;> simp [Bar.busy, Motion.isStill, hm]

/-- What a bar's invariants read: all but its outputs, trims, lap set and home parameters. -/
def Bar.sameTravel (b b' : Bar) : Prop :=
  b'.mode = b.mode ∧ b'.referenced = b.referenced ∧ b'.pos = b.pos ∧ b'.motion = b.motion ∧ b'.target = b.target
    ∧ b'.next = b.next ∧ b'.cls = b.cls ∧ b'.limit = b.limit

theorem Bar.sameTravel.sound {b b' : Bar} (h : b.sameTravel b') {spn : Nat} (hb : b.sound spn) : b'.sound spn := by
  obtain ⟨mode, referenced, pos, motion, target, next, -, limit⟩ := h
  unfold Bar.sound Bar.inv Bar.withinTravel
  rw [mode, referenced, pos, motion, target, next, limit]
  exact hb

theorem Bar.sameTravel.limit {b b' : Bar} (h : b.sameTravel b') : b'.limit = b.limit := by
  obtain ⟨-, -, -, -, -, -, -, limit⟩ := h
  exact limit

/-- The next pulse of a move brings its bar one step towards the target (R112, R115). -/
theorem Bar.sound.movePulse {b : Bar} {spn : Nat} (h : b.sound spn) {m : Move} (hm : b.motion = .moving m)
    (hlt : m.emitted < m.steps) : (b.movePulse m).sound spn := by
  obtain ⟨-, reaches⟩ := h.moving hm
  cases hr : b.referenced with
  | false =>
    have pos : (b.movePulse m).pos = b.pos := by simp [Bar.movePulse, Bar.posAfterPulse, hr]
    refine ⟨⟨fun _ => ?_, hlt, fun href => ?_⟩, fun href => ?_⟩
    · rw [pos]
      exact h.unreferenced hr
    · exact absurd (hr.symm.trans href) nofun
    · exact absurd (hr.symm.trans href) nofun
  | true =>
    obtain ⟨hpos, htarget, hnext⟩ := h.travel hr
    have reach := reaches hr
    have pos : (b.movePulse m).pos = if m.up then b.pos + 1 else b.pos - 1 := by
      simp [Bar.movePulse, Bar.posAfterPulse, hr]
    have towards : (b.movePulse m).pos ≤ b.limit * spn
        ∧ if m.up then b.target = (b.movePulse m).pos + (m.steps - (m.emitted + 1))
          else (b.movePulse m).pos = b.target + (m.steps - (m.emitted + 1)) := by
      split at reach <;> rename_i hup
      · rw [pos, if_pos hup, if_pos hup]
        omega
      · rw [pos, if_neg hup, if_neg hup]
        omega
    exact ⟨⟨fun href => absurd (hr.symm.trans href) nofun, hlt, fun _ => towards.2⟩, fun _ => ⟨towards.1, htarget, hnext⟩⟩

/-- A move with no pulse emitted yet (R114). -/
def Move.begun (ramp : List Nat) (up : Bool) (steps : Nat) : Move :=
  { up := up, steps := steps, emitted := 0, ramp := ramp, left := 0 }

theorem Bar.startSteps_eq (b : Bar) (ramp : List Nat) (up : Bool) (steps target : Nat) :
    b.startSteps ramp up steps target = Bar.movePulse
      { b with dirHigh := up, target := target, motion := .moving (.begun ramp up steps) } (.begun ramp up steps) := rfl

/-- A move towards a target begins: the move with no pulse emitted is sound, and so is its first pulse (R114, R115). -/
theorem Bar.startSteps_sound {b : Bar} {spn : Nat} {ramp : List Nat} {up : Bool} {steps target : Nat} (hs : 0 < steps)
    (hn : b.next = none) (hu : b.referenced = false → b.pos = 0 ∧ target = 0)
    (hr : b.referenced = true → b.pos ≤ b.limit * spn ∧ target ≤ b.limit * spn)
    (way : b.referenced = true → if up then target = b.pos + steps else b.pos = target + steps) :
    (b.startSteps ramp up steps target).sound spn := by
  have begun : { b with dirHigh := up, target := target, motion := .moving (.begun ramp up steps) }.sound spn := by
    refine ⟨⟨fun h => ⟨(hu h).1, (hu h).2, hn⟩, Nat.zero_le _, way⟩, fun h => ⟨(hr h).1, (hr h).2, ?_⟩⟩
    show ∀ t, b.next = some t → _
    rw [hn]
    nofun
  rw [Bar.startSteps_eq]
  exact begun.movePulse rfl hs

/-- A referenced bar that is STILL, given a target inside its travel (R114). -/
theorem Bar.sound.startToward {b : Bar} {spn : Nat} (h : b.sound spn) (hm : b.motion = .still) (hr : b.referenced = true)
    (ramp : Option (List Nat)) {target : Nat} (ht : target ≤ b.limit * spn) : (b.startToward ramp target).sound spn := by
  unfold Bar.startToward
  split
  · exact h
  · next hne =>
    split
    · exact h
    · refine Bar.startSteps_sound ?_ (h.still hm).2 (fun hu => absurd (hr.symm.trans hu) nofun)
        (fun _ => ⟨(h.travel hr).1, ht⟩) (fun _ => ?_) <;> rw [distance_eq]
      · split <;> omega
      · by_cases hlt : b.pos < target
        · rw [if_pos (decide_eq_true hlt), if_neg (by omega)]
          omega
        · rw [if_neg (by simpa using hlt), if_pos (by omega)]
          omega

/-- A target inside its travel given to a referenced bar in any motion state (R117, R118). -/
theorem Bar.sound.giveTarget {b : Bar} {spn : Nat} (h : b.sound spn) (hr : b.referenced = true) (ramp : Option (List Nat))
    {target : Nat} (ht : target ≤ b.limit * spn) : (b.giveTarget ramp target).sound spn := by
  unfold Bar.giveTarget
  split
  · next hm => exact h.startToward hm hr ramp ht
  · next m hm =>
    obtain ⟨hpos, htarget, -⟩ := h.travel hr
    obtain ⟨⟨-, hmotion⟩, -⟩ := h
    refine ⟨⟨fun hu => absurd (hr.symm.trans hu) nofun, ?_⟩, fun _ => ⟨hpos, htarget, fun t e => ?_⟩⟩
    · rw [hm] at hmotion ⊢
      exact hmotion
    · cases e
      exact ht
  · exact h

/-- A move whose pulses are all emitted has reached its target; its bar stands there, or goes on to its next (R116). -/
theorem Bar.sound.completeMove {b : Bar} {spn : Nat} (h : b.sound spn) {m : Move} (hm : b.motion = .moving m)
    (hdone : ¬ m.emitted < m.steps) (ramp : Option (List Nat)) (st : NodeState) :
    (b.completeMove ramp st).sound spn := by
  obtain ⟨emitted, reaches⟩ := h.moving hm
  have arrived : b.target = b.pos := by
    cases hr : b.referenced with
    | false =>
      obtain ⟨hpos, htarget, -⟩ := h.unreferenced hr
      rw [hpos, htarget]
    | true =>
      have reach := reaches hr
      have left : m.steps - m.emitted = 0 := by omega
      rw [left] at reach
      split at reach
      · exact reach
      · exact reach.symm
  have rested : { b with motion := .still, next := none }.sound spn :=
    Bar.sound_still rfl arrived rfl (fun hr => (h.travel hr).1) (fun hu => (h.unreferenced hu).1)
  unfold Bar.completeMove
  dsimp only
  split
  · exact rested
  · next t hnext =>
    have hr : b.referenced = true := by
      rw [← Bool.not_eq_false]
      intro hu
      obtain ⟨-, -, none⟩ := h.unreferenced hu
      exact absurd (none.symm.trans hnext) nofun
    obtain ⟨-, -, within⟩ := h.travel hr
    split
    · exact rested.startToward rfl hr ramp (within t hnext)
    · exact rested

/-- A JOG bar with no next target stays sound with any search in flight (R157, R158). -/
theorem Bar.sound.search {b : Bar} {spn : Nat} (h : b.sound spn) (hj : b.mode = .jog) (hn : b.next = none) (x : Search)
    (up : Bool) : { b.raiseStep with dirHigh := up, motion := .searching x }.sound spn :=
  ⟨⟨h.unreferenced, hj, hn⟩, h.travel⟩

theorem Bar.sound.startLeg {b : Bar} {spn : Nat} (h : b.sound spn) (hj : b.mode = .jog) (hn : b.next = none) (x : Search)
    (leg : Leg) : (b.startLeg x leg).sound spn :=
  h.search hj hn _ _

theorem Bar.sound.legPulse {b : Bar} {spn : Nat} (h : b.sound spn) {x : Search} (hm : b.motion = .searching x) :
    (b.legPulse x).sound spn :=
  h.search (h.searching hm).1 (h.searching hm).2 _ b.dirHigh

/-- Home found: the bar stands at its home position, inside its travel (R159). -/
theorem Bar.homeFound_sound {b : Bar} {spn : Nat} (hn : b.next = none) (x : Search) : (b.homeFound x spn).sound spn :=
  Bar.sound_still rfl rfl hn (fun _ => Nat.min_le_right _ _) nofun

theorem Bar.searchFailed_sound {b : Bar} (hn : b.next = none) (spn : Nat) : b.searchFailed.sound spn :=
  Bar.sound_still rfl rfl hn nofun (fun _ => rfl)

theorem Bar.enterMode_kept (b : Bar) (m : Mode) : (b.enterMode m).cls = b.cls ∧ (b.enterMode m).limit = b.limit := by
  unfold Bar.enterMode
  split
  · exact ⟨rfl, rfl⟩
  · cases m <;> exact ⟨rfl, rfl⟩

/-- A bar that is STILL takes a mode (R109, R112). -/
theorem Bar.sound.enterMode {b : Bar} {spn : Nat} (h : b.sound spn) (hm : b.motion = .still) (m : Mode) :
    (b.enterMode m).sound spn := by
  obtain ⟨here, hn⟩ := h.still hm
  have atRest : ∀ mode enable, { b with mode := mode, enable := enable }.sound spn := fun _ _ =>
    Bar.sound_still hm here hn (fun hr => (h.travel hr).1) (fun hu => (h.unreferenced hu).1)
  unfold Bar.enterMode
  split
  · exact atRest _ _
  · cases m with
    | parked => exact Bar.sound_still hm rfl hn nofun (fun _ => rfl)
    | jog => exact atRest _ _
    | motion => exact atRest _ _

theorem Bar.sound.tick {b : Bar} {spn : Nat} (h : b.sound spn) : b.tick.sound spn := by
  obtain ⟨⟨unreferenced, hmotion⟩, travel⟩ := h
  refine ⟨⟨unreferenced, ?_⟩, travel⟩
  cases hm : b.motion <;> rw [hm] at hmotion <;> simpa [Bar.tick, Motion.tick, hm] using hmotion

end Sys2Proof.Machine


-- ==== The bars, the records held and the expansion together (O59) ====
namespace Sys2Proof.Machine

/-! ### Every bar of the node -/

/-- What a bar's span and its reference rest on: its mode, whether it is referenced, its class and its travel limit. -/
def Bar.sameSpan (b b' : Bar) : Prop :=
  b'.mode = b.mode ∧ b'.referenced = b.referenced ∧ b'.cls = b.cls ∧ b'.limit = b.limit

theorem Bar.sameSpan_refl (b : Bar) : b.sameSpan b := ⟨rfl, rfl, rfl, rfl⟩

theorem Bar.sameSpan.limit {b b' : Bar} (h : b.sameSpan b') : b'.limit = b.limit := by
  obtain ⟨-, -, -, limit⟩ := h
  exact limit

theorem Bar.startToward_sameSpan (b : Bar) (ramp : Option (List Nat)) (target : Nat) :
    b.sameSpan (b.startToward ramp target) := by
  unfold Bar.startToward
  split
  · exact b.sameSpan_refl
  · split <;> exact ⟨rfl, rfl, rfl, rfl⟩

theorem Bar.giveTarget_sameSpan (b : Bar) (ramp : Option (List Nat)) (target : Nat) :
    b.sameSpan (b.giveTarget ramp target) := by
  unfold Bar.giveTarget
  split
  · exact b.startToward_sameSpan ramp target
  all_goals exact ⟨rfl, rfl, rfl, rfl⟩

theorem Bar.completeMove_sameSpan (b : Bar) (ramp : Option (List Nat)) (st : NodeState) :
    b.sameSpan (b.completeMove ramp st) := by
  unfold Bar.completeMove
  dsimp only
  split
  · exact ⟨rfl, rfl, rfl, rfl⟩
  · split
    · exact Bar.startToward_sameSpan { b with motion := .still, next := none } ramp _
    · exact ⟨rfl, rfl, rfl, rfl⟩

theorem State.classOf_congr (s : State) {b b' : Bar} (h : b'.cls = b.cls) : s.classOf b' = s.classOf b := by
  simp only [State.classOf, h]

section
variable {s t : State}

theorem BarsInv.sound (h : BarsInv s) (n : BarIx) : s.bars[n].sound (s.classOf s.bars[n]).spn := by
  obtain ⟨bars, -, -⟩ := h
  obtain ⟨inv, travel, -⟩ := bars n
  exact ⟨inv, travel⟩

theorem BarsInv.referenced (h : BarsInv s) {n : BarIx} (on : s.node.state ≠ .offline) (hm : s.bars[n].mode = .motion) :
    s.bars[n].referenced = true := by
  obtain ⟨bars, -, -⟩ := h
  obtain ⟨-, -, referenced⟩ := bars n
  exact referenced on hm

/-- A record's positions lie within the travel limits of the bars (R50, R76). -/
def CourseRecord.fits (r : CourseRecord) (bars : Vector Bar 16) : Prop := ∀ n : BarIx, r.plans[n].within bars[n].limit

/-- An expansion has the bars' travel limits and its candidate's positions lie within them (R46, R50). -/
def Expansion.fits (j : Expansion) (bars : Vector Bar 16) : Prop :=
  ∀ n : BarIx, j.limits[n] = bars[n].limit ∧ j.plans[n].within bars[n].limit

theorem BarsInv.fits (h : BarsInv s) (on : s.node.state ≠ .offline) {r : CourseRecord} (hr : r ∈ s.queue.held) :
    r.fits s.bars := by
  obtain ⟨-, held, -⟩ := h
  exact held on r hr

theorem BarsInv.job (h : BarsInv s) {j : Expansion} (hj : s.expander.job = some j) : j.fits s.bars := by
  obtain ⟨-, -, job⟩ := h
  exact job j hj

theorem BarsInv.intro (sound : ∀ n : BarIx, s.bars[n].sound (s.classOf s.bars[n]).spn)
    (referenced : s.node.state ≠ .offline → ∀ n : BarIx, s.bars[n].mode = .motion → s.bars[n].referenced = true)
    (held : s.node.state ≠ .offline → ∀ r ∈ s.queue.held, r.fits s.bars)
    (job : ∀ j, s.expander.job = some j → j.fits s.bars) : BarsInv s :=
  ⟨fun n => ⟨(sound n).1, (sound n).2, fun on => referenced on n⟩, held, job⟩

/-- What keeps the invariant: the same travel of each bar, the same steps per needle of each class, no new record held
outside OFFLINE, and no other expansion in progress. -/
theorem BarsInv.frame (h : BarsInv s) (bars : ∀ n : BarIx, s.bars[n].sameTravel t.bars[n])
    (spn : ∀ c : ClassIx, t.engine.classes[c].spn = s.engine.classes[c].spn)
    (held : t.node.state ≠ .offline → s.node.state ≠ .offline ∧ ∀ r ∈ t.queue.held, r ∈ s.queue.held)
    (job : t.expander.job = none ∨ t.expander.job = s.expander.job) : BarsInv t := by
  have limit : ∀ n : BarIx, t.bars[n].limit = s.bars[n].limit := fun n => (bars n).limit
  refine BarsInv.intro (fun n => ?_) (fun on n hm => ?_) (fun on r hr n => ?_) (fun j hj n => ?_)
  · have cls : (t.classOf t.bars[n]).spn = (s.classOf s.bars[n]).spn := by
      obtain ⟨-, -, -, -, -, -, same, -⟩ := bars n
      rw [State.classOf_congr t same]
      exact spn _
    rw [cls]
    exact (bars n).sound (h.sound n)
  · obtain ⟨mode, referenced, -⟩ := bars n
    rw [referenced]
    exact h.referenced (held on).1 (mode.symm.trans hm)
  · rw [limit]
    exact h.fits (held on).1 ((held on).2 r hr) n
  · rw [limit]
    rcases job with none | same
    · exact absurd (none.symm.trans hj) nofun
    · exact h.job (same.symm.trans hj) n

theorem Bar.sameTravel_refl (b : Bar) : b.sameTravel b := ⟨rfl, rfl, rfl, rfl, rfl, rfl, rfl, rfl⟩

theorem activateTrims_sameTravel (bars : Vector Bar 16) (n : BarIx) : bars[n].sameTravel (activateTrims bars)[n] := by
  have e : (activateTrims bars)[n] = { bars[n] with activeTrim := bars[n].pendingTrim } := activateTrims_get bars n.val n.isLt
  rw [e]
  exact ⟨rfl, rfl, rfl, rfl, rfl, rfl, rfl, rfl⟩

/-- The invariant reads the bars, the classes' steps per needle, the node state, the records held and the expansion. -/
theorem BarsInv.of_same (h : BarsInv s) (bars : t.bars = s.bars) (engine : t.engine = s.engine) (node : t.node = s.node)
    (queue : t.queue = s.queue) (expander : t.expander = s.expander) : BarsInv t := by
  refine h.frame (fun n => ?_) (fun c => by rw [engine]) (fun on => ?_) (Or.inr (by rw [expander]))
  · rw [bars]
    exact Bar.sameTravel_refl _
  · rw [node] at on
    rw [queue]
    exact ⟨on, fun _ hr => hr⟩

theorem BarsInv.sound_of_same (h : BarsInv s) (bars : t.bars = s.bars) (engine : t.engine = s.engine) (n : BarIx) :
    t.bars[n].sound (t.classOf t.bars[n]).spn := by
  rw [State.classOf, bars, engine]
  exact h.sound n

/-- One bar's record replaced by another sound one; its travel limit may change in OFFLINE alone, while no expansion is in
progress (R46, R111). -/
theorem BarsInv.setBar (h : BarsInv s) {n : BarIx} {b : Bar} (sound : b.sound (s.classOf b).spn)
    (referenced : s.node.state ≠ .offline → b.mode = .motion → b.referenced = true)
    (limit : b.limit = s.bars[n].limit ∨ (s.node.state = .offline ∧ s.expander.job = none)) : BarsInv (s.setBar n b) := by
  have same : b.limit = s.bars[n].limit → ∀ k : BarIx, (s.setBar n b).bars[k].limit = s.bars[k].limit := by
    intro hl k
    by_cases hk : k = n
    · subst hk
      rw [State.setBar_same, hl]
    · rw [State.setBar_other s b hk]
  refine BarsInv.intro (fun k => ?_) (fun on k hm => ?_) (fun on r hr k => ?_) (fun j hj k => ?_)
  · by_cases hk : k = n
    · subst hk
      rw [State.setBar_same]
      exact sound
    · rw [State.setBar_other s b hk]
      exact h.sound k
  · by_cases hk : k = n
    · subst hk
      rw [State.setBar_same] at hm ⊢
      exact referenced on hm
    · rw [State.setBar_other s b hk] at hm ⊢
      exact h.referenced on hm
  · rcases limit with limit | ⟨off, -⟩
    · rw [same limit]
      exact h.fits on hr k
    · exact absurd off on
  · rcases limit with limit | ⟨-, idle⟩
    · rw [same limit]
      exact h.job hj k
    · exact absurd (idle.symm.trans hj) nofun

/-- A bar's record replaced by one of the same travel. -/
theorem BarsInv.setBar_sameTravel (h : BarsInv s) {n : BarIx} {b : Bar} (same : s.bars[n].sameTravel b) :
    BarsInv (s.setBar n b) := by
  refine h.frame (fun k => ?_) (fun _ => rfl) (fun on => ⟨on, fun _ hr => hr⟩) (Or.inr rfl)
  by_cases hk : k = n
  · subst hk
    rw [State.setBar_same]
    exact same
  · rw [State.setBar_other s b hk]
    exact Bar.sameTravel_refl _

/-- The same of an operation of a bar's unit that keeps what its span and its reference rest on. -/
theorem BarsInv.setBar_moved (h : BarsInv s) {n : BarIx} {b : Bar} (sound : b.sound (s.classOf s.bars[n]).spn)
    (same : s.bars[n].sameSpan b) : BarsInv (s.setBar n b) := by
  obtain ⟨mode, referenced, cls, limit⟩ := same
  refine h.setBar ?_ (fun on hm => ?_) (Or.inl limit)
  · rw [State.classOf_congr s cls]
    exact sound
  · rw [referenced]
    exact h.referenced on (mode.symm.trans hm)

/-- The same of every bar at once. -/
theorem BarsInv.setBars (h : BarsInv s) {bars : Vector Bar 16}
    (sound : ∀ n : BarIx, bars[n].sound (s.classOf s.bars[n]).spn) (same : ∀ n : BarIx, s.bars[n].sameSpan bars[n]) :
    BarsInv { s with bars := bars } := by
  have limit : ∀ n : BarIx, bars[n].limit = s.bars[n].limit := fun n => (same n).limit
  refine BarsInv.intro (fun n => ?_) (fun on n hm => ?_) (fun on r hr n => ?_) (fun j hj n => ?_)
  · obtain ⟨-, -, cls, -⟩ := same n
    show bars[n].sound (s.classOf bars[n]).spn
    rw [State.classOf_congr s cls]
    exact sound n
  · obtain ⟨mode, referenced, -⟩ := same n
    exact referenced.trans (h.referenced on (mode.symm.trans hm))
  · show r.plans[n].within bars[n].limit
    rw [limit]
    exact h.fits on hr n
  · show j.limits[n] = bars[n].limit ∧ j.plans[n].within bars[n].limit
    rw [limit]
    exact h.job hj n

/-- The invariant with another node record. -/
theorem BarsInv.setNode (h : BarsInv s) {n : Node} (on : n.state ≠ .offline → s.node.state ≠ .offline) :
    BarsInv { s with node := n } :=
  BarsInv.intro h.sound (fun hn _ => h.referenced (on hn)) (fun hn _ => h.fits (on hn)) (fun _ => h.job)

/-- The invariant with another engine of the same steps per needle. -/
theorem BarsInv.setEngine (h : BarsInv s) {e : Engine}
    (spn : ∀ c : ClassIx, e.classes[c].spn = s.engine.classes[c].spn) : BarsInv { s with engine := e } :=
  h.frame (fun _ => Bar.sameTravel_refl _) spn (fun on => ⟨on, fun _ hr => hr⟩) (Or.inr rfl)

/-- The invariant with another queue. -/
theorem BarsInv.setQueue (h : BarsInv s) {q : Queue} (fits : s.node.state ≠ .offline → ∀ r ∈ q.held, r.fits s.bars) :
    BarsInv { s with queue := q } :=
  BarsInv.intro h.sound (fun on _ => h.referenced on) fits (fun _ => h.job)

/-- The invariant with another expansion, or none. -/
theorem BarsInv.setJob (h : BarsInv s) {e : Expander} (fits : ∀ j, e.job = some j → j.fits s.bars) :
    BarsInv { s with expander := e } :=
  BarsInv.intro h.sound (fun on _ => h.referenced on) (fun on _ => h.fits on) fits

end

/-! ### Held records (R74, R75) -/

theorem Queue.mem_held {q : Queue} {r : CourseRecord} :
    r ∈ q.held ↔ r ∈ q.history ∨ q.current = some r ∨ r ∈ q.pending := by
  simp [Queue.held]

theorem Queue.beforePending_held {q : Queue} {r : CourseRecord} (h : q.beforePending = some r) : r ∈ q.held := by
  unfold Queue.beforePending at h
  split at h
  · next cur hc =>
    cases h
    exact Queue.mem_held.mpr (Or.inr (Or.inl hc))
  · exact Queue.mem_held.mpr (Or.inl (List.mem_of_getLast? h))

theorem Queue.newest_held {q : Queue} {r : CourseRecord} (h : q.newest = some r) : r ∈ q.held := by
  unfold Queue.newest at h
  split at h
  · next last hl =>
    cases h
    exact Queue.mem_held.mpr (Or.inr (Or.inr (List.mem_of_getLast? hl)))
  · exact Queue.beforePending_held h

/-- A step of the queue holds no new record (R87, R88). -/
theorem Queue.stepped_held {q : Queue} {head : CourseRecord} {rest : List CourseRecord} (h : q.pending = head :: rest)
    {r : CourseRecord} (hr : r ∈ (q.stepped head rest).held) : r ∈ q.held := by
  rw [Queue.mem_held] at hr ⊢
  rw [h]
  rcases hr with hr | hr | hr
  · rw [Queue.stepped_eq] at hr
    dsimp only at hr
    split at hr
    · next cur hc =>
      rw [hc]
      rcases List.mem_append.mp hr with hr | hr
      · split at hr
        · exact Or.inl (List.mem_of_mem_drop hr)
        · exact Or.inl hr
      · exact Or.inr (Or.inl (congrArg some (List.mem_singleton.mp hr).symm))
    · exact Or.inl hr
  · cases hr
    exact Or.inr (Or.inr List.mem_cons_self)
  · exact Or.inr (Or.inr (List.mem_cons_of_mem _ hr))

/-- A retrace holds no new record (R90, R91). -/
theorem Queue.retraced_held {q : Queue} {newest : CourseRecord} (h : q.history.getLast? = some newest) {r : CourseRecord}
    (hr : r ∈ (q.retraced newest).held) : r ∈ q.held := by
  rw [Queue.mem_held] at hr ⊢
  rcases hr with hr | hr | hr
  · exact Or.inl (List.mem_of_mem_dropLast hr)
  · cases hr
    exact Or.inl (List.mem_of_getLast? h)
  · rcases List.mem_append.mp hr with hr | hr
    · exact Or.inr (Or.inl (Option.mem_toList.mp hr))
    · refine Or.inr (Or.inr ?_)
      unfold Queue.roomForRetrace at hr
      split at hr
      · exact List.mem_of_mem_dropLast hr
      · exact hr

/-! ### Records within the travel limits (R49, R50, R76, R98) -/

theorem BarPlan.within_zero {p : BarPlan} (hl : p.lead = 0) (ht : p.trail = 0) (limit : Nat) : p.within limit :=
  ⟨hl ▸ Nat.zero_le _, ht ▸ Nat.zero_le _⟩

theorem clampedPlan_within (source : Source) (lead trail limit : Nat) : (clampedPlan source lead trail limit).within limit :=
  ⟨Nat.min_le_right _ _, Nat.min_le_right _ _⟩

theorem entryPlan_within (w : Word) (limit : Nat) : (entryPlan w limit).within limit := by
  unfold entryPlan
  split
  · exact BarPlan.within_zero rfl rfl limit
  · exact clampedPlan_within _ _ _ _

theorem firstPlan_within (s : State) (f : CourseFrame) (n : BarIx) : (firstPlan s f n).within s.bars[n].limit := by
  unfold firstPlan
  split
  · split
    · exact clampedPlan_within _ _ _ _
    · exact BarPlan.within_zero rfl rfl _
  · exact BarPlan.within_zero rfl rfl _

theorem expansionOf_fits (s : State) (ticket : Nat) (f : CourseFrame) : (expansionOf s ticket f).fits s.bars := by
  intro n
  have limits : (expansionOf s ticket f).limits[n] = s.bars[n].limit := by simp [expansionOf]
  have plans : (expansionOf s ticket f).plans[n] = firstPlan s f n := by simp [expansionOf]
  rw [limits, plans]
  exact ⟨rfl, firstPlan_within s f n⟩

/-- A fetch keeps the limits taken, and gives one bar a plan within them (R47, R50). -/
theorem Expansion.fits.fetched {j : Expansion} {bars : Vector Bar 16} (h : j.fits bars) (o : ReadOutcome) :
    (j.fetched o).fits bars := by
  by_cases ho : o.severity = some .uncorrectable
  · rw [Expansion.fetched_ecc ho]
    exact h
  · unfold Expansion.fetched
    rw [if_neg ho]
    dsimp only
    split
    · exact h
    · next b _ _ =>
      intro n
      refine ⟨(h n).1, ?_⟩
      show ((j.plans.set b (entryPlan o.data j.limits[b]))[n]).within _
      by_cases hb : b.val = n.val
      · obtain rfl : b = n := Fin.ext hb
        rw [← (h b).1]
        simpa using entryPlan_within o.data j.limits[b]
      · simpa [hb] using (h n).2
    · exact h

theorem planRecord_fits (s : State) {r : CourseRecord} (prev : CourseRecord) {bars : Vector Bar 16} (h : r.fits bars) :
    (planRecord s r prev).fits bars := by
  intro n
  have plan : (planRecord s r prev).plans[n] = planDistances r.plans[n] prev.plans[n] := by simp [planRecord]
  rw [plan]
  unfold planDistances
  split
  · exact h n
  · exact h n

theorem planAll_fits (s : State) {rs : List CourseRecord} {bars : Vector Bar 16} (h : ∀ r ∈ rs, r.fits bars)
    (prev : CourseRecord) : ∀ r ∈ planAll s prev rs, r.fits bars := by
  induction rs generalizing prev with
  | nil => exact nofun
  | cons a rest ih =>
    intro r hr
    rcases List.mem_cons.mp hr with rfl | hr
    · exact planRecord_fits s prev (h a List.mem_cons_self)
    · exact ih (fun x hx => h x (List.mem_cons_of_mem _ hx)) _ r hr

/-- STAND plans take their positions from the predecessor (R49). -/
theorem filledFrom_fits {r prev : CourseRecord} {bars : Vector Bar 16} (h : r.fits bars) (hp : prev.fits bars) :
    (filledFrom r prev).fits bars := by
  intro n
  have plan : (filledFrom r prev).plans[n] = fillStand r.plans[n] prev.plans[n] := by simp [filledFrom]
  rw [plan]
  unfold fillStand
  split
  · exact ⟨(hp n).2, (hp n).2⟩
  · exact h n

theorem blankRecord_fits (bars : Vector Bar 16) : blankRecord.fits bars := by
  intro n
  have plan : blankRecord.plans[n] = excludedPlan := by simp [blankRecord]
  rw [plan]
  exact BarPlan.within_zero rfl rfl _

/-- The origin record's positions are the needle positions of referenced bars, inside their travel (R76, R140). -/
theorem originRecord_fits {s : State} (h : BarsInv s) (tag : Word)
    (referenced : ∀ n : BarIx, s.bars[n].mode = .motion → s.bars[n].referenced = true) : (originRecord s tag).fits s.bars := by
  intro n
  have plan : (originRecord s tag).plans[n] = originPlan s s.bars[n] := by simp [originRecord]
  rw [plan]
  unfold originPlan
  split
  · next hm =>
    obtain ⟨hpos, -, -⟩ := (h.sound n).travel (referenced n hm)
    have needle : s.bars[n].pos / (s.classOf s.bars[n]).spn ≤ s.bars[n].limit := Nat.div_le_of_le_mul (by rwa [Nat.mul_comm])
    exact ⟨needle, needle⟩
  · exact BarPlan.within_zero rfl rfl _

end Sys2Proof.Machine


-- ==== Bars and records along every event (O59) ====
namespace Sys2Proof.Machine

/-! ### Increments (R86 to R92, R123 to R129, R138) -/

theorem Node.requestHold_offline (n : Node) (d : Bool) : (n.requestHold d).state = .offline ↔ n.state = .offline := by
  rw [Node.requestHold_state]
  cases n.state <;> simp

theorem State.requestHold_barsInv (s : State) (d : Bool) (h : BarsInv s) : BarsInv (s.requestHold d) :=
  h.setNode (mt (s.node.requestHold_offline d).mpr)

theorem State.stepQueue_heldBefore {s : State} {head : CourseRecord} {rest : List CourseRecord}
    (hp : s.queue.pending = head :: rest) (t : Nat) {r : CourseRecord} (hr : r ∈ (s.stepQueue t head rest).queue.held) :
    r ∈ s.queue.held := by
  obtain ⟨d, e⟩ := s.stepQueue_queue t head rest
  rw [e] at hr
  exact Queue.stepped_held hp hr

/-- A forward boundary holds no new record (R87 to R89). -/
theorem State.forwardBoundary_heldBefore (s : State) (t : Nat) {r : CourseRecord}
    (hr : r ∈ (s.forwardBoundary t).queue.held) : r ∈ s.queue.held := by
  unfold State.forwardBoundary at hr
  split at hr
  · exact hr
  · split at hr
    · exact hr
    · next hp => exact State.stepQueue_heldBefore (s := { s with node := s.node.enter .running }) hp t hr
  all_goals
    split at hr
    · rwa [State.runDry_queue] at hr
    · next hp => exact State.stepQueue_heldBefore hp t hr

/-- A reverse boundary holds no new record (R90 to R92). -/
theorem State.reverseBoundary_heldBefore (s : State) {r : CourseRecord} (hr : r ∈ s.reverseBoundary.queue.held) :
    r ∈ s.queue.held := by
  unfold State.reverseBoundary at hr
  split at hr
  · exact hr
  · exact hr
  all_goals
    split at hr
    · exact hr
    · next hn => exact Queue.retraced_held hn hr

theorem State.boundary_heldBefore (s : State) (forward : Bool) (t : Nat) {r : CourseRecord}
    (hr : r ∈ (s.boundary forward t).queue.held) : r ∈ s.queue.held := by
  cases forward
  · exact s.reverseBoundary_heldBefore hr
  · exact s.forwardBoundary_heldBefore t hr

/-- A boundary changes nothing in OFFLINE (R86). -/
theorem State.boundary_offline {s : State} (h : s.node.state = .offline) (forward : Bool) (t : Nat) :
    s.boundary forward t = s := by
  cases forward
  · exact State.reverseBoundary_idle (Or.inl h)
  · exact State.forwardBoundary_offline h t

theorem State.boundary_barsInv (s : State) (forward : Bool) (t : Nat) (h : BarsInv s) : BarsInv (s.boundary forward t) := by
  by_cases off : s.node.state = .offline
  · rw [State.boundary_offline off]
    exact h
  · refine h.frame (fun n => ?_) (fun _ => by rw [State.boundary_engine])
      (fun _ => ⟨off, fun _ hr => s.boundary_heldBefore forward t hr⟩) (Or.inr (by rw [State.boundary_expander]))
    rcases s.boundary_bars forward t with e | ⟨-, e⟩
    · rw [e]
      exact Bar.sameTravel_refl _
    · rw [e]
      exact activateTrims_sameTravel s.bars n

/-- A trigger reads a needle position of a record held, which lies within the travel limit (R124, R125). -/
theorem triggerNeedle_le {q : Queue} {bars : Vector Bar 16} (fits : ∀ r ∈ q.held, r.fits bars) {n : BarIx} {e : Edge}
    {forward : Bool} {needle : Nat} (hn : triggerNeedle q n e forward = some needle) : needle ≤ bars[n].limit := by
  unfold triggerNeedle at hn
  split at hn
  · obtain ⟨r, hr, rfl⟩ := Option.map_eq_some_iff.mp hn
    exact (fits r (Queue.mem_held.mpr (Or.inr (Or.inl hr))) n).1
  · obtain ⟨r, hr, rfl⟩ := Option.map_eq_some_iff.mp hn
    exact (fits r (Queue.mem_held.mpr (Or.inr (Or.inl hr))) n).1
  · obtain ⟨r, hr, rfl⟩ := Option.map_eq_some_iff.mp hn
    exact (fits r (Queue.mem_held.mpr (Or.inr (Or.inl hr))) n).2
  · obtain ⟨r, hr, rfl⟩ := Option.map_eq_some_iff.mp hn
    exact (fits r (Queue.mem_held.mpr (Or.inl (List.mem_of_getLast? hr))) n).2
  · cases hn

theorem takeCourseTarget_barsInv {s : State} (h : BarsInv s) {c : Crossing} (hr : s.bars[c.bar].referenced = true)
    {needle : Nat} (hn : needle ≤ s.bars[c.bar].limit) : BarsInv (takeCourseTarget s c needle) := by
  have given := h.setBar_moved ((h.sound c.bar).giveTarget hr (s.rampOf s.bars[c.bar])
    (Nat.mul_le_mul_right (s.classOf s.bars[c.bar]).spn hn)) (Bar.giveTarget_sameSpan _ _ _)
  unfold takeCourseTarget
  dsimp only
  split <;> exact given

/-- A crossing gives a target to a MOTION bar in RUNNING, which is referenced (R123, R140). -/
theorem takeCrossing_barsInv (s : State) (c : Crossing) (h : BarsInv s) : BarsInv (takeCrossing s c) := by
  unfold takeCrossing
  split
  · next hs =>
    obtain ⟨running, motion⟩ := hs
    have on : s.node.state ≠ .offline := by rw [running]; nofun
    split
    · split
      · exact h
      · next needle hn => exact takeCourseTarget_barsInv h (h.referenced on motion) (triggerNeedle_le (fun _ => h.fits on) hn)
    · split <;> exact h
  · exact h

theorem State.takeIncrement_barsInv {s : State} (h : BarsInv s) (forward level : Bool) :
    BarsInv (s.takeIncrement forward level) :=
  State.takeIncrement_keeps (fun _ _ h => h) (fun _ _ h => h) (fun s _ => s.requestHold_barsInv false)
    takeCrossing_barsInv State.requestHold_barsInv (fun s _ => s.requestHold_barsInv true) State.boundary_barsInv h forward level

theorem State.settleIndex_barsInv {s : State} (h : BarsInv s) : BarsInv s.settleIndex :=
  (State.settleIndex_keeps (fun _ _ h => h) (fun _ _ _ h => h) State.requestHold_barsInv State.boundary_barsInv h).2

/-! ### The bars' events (R112, R115, R116, R146, R157 to R160) -/

theorem State.evaluateCatchup_barsInv {s : State} (h : BarsInv s) : BarsInv s.evaluateCatchup := by
  rcases s.evaluateCatchup_cases with e | ⟨catchup, -, e⟩
  · rw [e]
    exact h
  · rw [e]
    exact h.setNode (fun _ => by rw [catchup]; nofun)

theorem execStepPulse_barsInv {s t : State} (h : BarsInv s) (n : BarIx) (ht : execStepPulse n s = .next t) : BarsInv t := by
  unfold execStepPulse at ht
  split at ht <;> cases ht
  · next m hm =>
    split
    · next more => exact h.setBar_moved ((h.sound n).movePulse hm more) ⟨rfl, rfl, rfl, rfl⟩
    · exact h
  · exact h
  · exact h

theorem execMoveComplete_barsInv {s t : State} (h : BarsInv s) (n : BarIx) (ht : execMoveComplete n s = .next t) :
    BarsInv t := by
  unfold execMoveComplete at ht
  split at ht <;> cases ht
  · next m hm =>
    split
    · exact h
    · next done =>
      exact State.evaluateCatchup_barsInv (h.setBar_moved ((h.sound n).completeMove hm done _ _) (Bar.completeMove_sameSpan _ _ _))
  · exact h
  · exact h

/-- A search goes on, finds home or fails; its bar is in JOG mode all the while (R158 to R160). -/
theorem State.sampleSearch_barsInv {s : State} (h : BarsInv s) {n : BarIx} {x : Search}
    (hm : s.bars[n].motion = .searching x) : BarsInv (s.sampleSearch n x) := by
  have sound := h.sound n
  obtain ⟨jog, next⟩ := sound.searching hm
  have leg : ∀ l, BarsInv (s.setBar n (s.bars[n].startLeg x l)) := fun l =>
    h.setBar_moved (sound.startLeg jog next x l) ⟨rfl, rfl, rfl, rfl⟩
  have pulse : BarsInv (s.setBar n (s.bars[n].legPulse x)) := h.setBar_moved (sound.legPulse hm) ⟨rfl, rfl, rfl, rfl⟩
  have fails : BarsInv (s.failSearch n) :=
    h.setBar (b := s.bars[n].searchFailed) (Bar.searchFailed_sound next _)
      (fun _ motion => absurd (jog.symm.trans motion) nofun) (Or.inl rfl)
  have found : BarsInv (s.setBar n (s.bars[n].homeFound x (s.classOf s.bars[n]).spn)) :=
    h.setBar (Bar.homeFound_sound next x) (fun _ _ => rfl) (Or.inl rfl)
  unfold State.sampleSearch
  dsimp only
  split
  · split
    · exact leg _
    · split
      · exact pulse
      · exact fails
  · split
    · exact State.evaluateCatchup_barsInv found
    · split
      · exact pulse
      · exact fails

theorem execSearchSample_barsInv {s t : State} (h : BarsInv s) (n : BarIx) (homes : BitVec 16)
    (ht : execSearchSample n homes s = .next t) : BarsInv t := by
  unfold execSearchSample at ht
  dsimp only at ht
  split at ht <;> cases ht
  · next x hm => exact State.sampleSearch_barsInv (s := { s with homes := homes }) h hm
  · exact h
  · exact h

/-! ### Course frames and expansions (R46, R53, R84) -/

theorem State.handOver_barsInv {s : State} (h : BarsInv s) (ticket : Nat) (f : CourseFrame) :
    BarsInv (s.handOver ticket f) := by
  unfold State.handOver
  split
  · exact h
  · rw [State.beginExpansion_eq]
    refine h.setJob (e := { s.expander with job := some (expansionOf s ticket f) }) (fun j hj => ?_)
    cases hj
    exact expansionOf_fits s ticket f

theorem handOverWaiting_barsInv (fs : List (Nat × CourseFrame)) {s : State} (h : BarsInv s) :
    BarsInv (handOverWaiting fs s) := by
  induction fs generalizing s with
  | nil => exact h
  | cons e rest ih =>
    obtain ⟨ticket, f⟩ := e
    have first := State.handOver_barsInv h ticket f
    simp only [handOverWaiting]
    split
    · exact first
    · exact ih first

theorem State.releaseWaiting_barsInv {s : State} (h : BarsInv s) : BarsInv s.releaseWaiting := by
  unfold State.releaseWaiting
  split
  · exact h
  · exact handOverWaiting_barsInv _ h

theorem State.courseFrame_barsInv {s : State} (h : BarsInv s) (f : CourseFrame) : BarsInv (s.courseFrame f) := by
  unfold State.courseFrame
  split
  · exact h
  · dsimp only
    split
    · exact h
    · exact State.handOver_barsInv
        (s := { s with ring := s.ring.cleanSeen }.enterFrame (cleanFrameOf (courseBody f))) h _ f

/-- The queue with a record appended: the pending list one longer, the expected tag one further (R84). -/
def Queue.appended (q : Queue) (r : CourseRecord) : Queue :=
  { q with pending := q.pending ++ [r], expected := q.expected.map (· + 1) }

/-- An append queues the candidate planned against its predecessor, and reports its limits (R49, R50, R84). -/
theorem appendRecord_eq (s : State) (r prev : CourseRecord) :
    appendRecord s r prev = reportLimits { s with queue := s.queue.appended (planRecord s (filledFrom r prev) prev) }
      (planRecord s (filledFrom r prev) prev) := rfl

/-- An append holds one record more, planned from the candidate and the newest record held (R84). -/
theorem appendRecord_barsInv {s : State} (h : BarsInv s) {r prev : CourseRecord} (hr : r.fits s.bars)
    (hp : s.node.state ≠ .offline → prev.fits s.bars) : BarsInv (appendRecord s r prev) := by
  have queued : BarsInv { s with queue := s.queue.appended (planRecord s (filledFrom r prev) prev) } := by
    refine h.setQueue (fun on r' hr' => ?_)
    rw [Queue.mem_held] at hr'
    rcases hr' with hr' | hr' | hr'
    · exact h.fits on (Queue.mem_held.mpr (Or.inl hr'))
    · exact h.fits on (Queue.mem_held.mpr (Or.inr (Or.inl hr')))
    · rcases List.mem_append.mp hr' with hr' | hr'
      · exact h.fits on (Queue.mem_held.mpr (Or.inr (Or.inr hr')))
      · rw [List.mem_singleton.mp hr']
        exact planRecord_fits s prev (filledFrom_fits hr (hp on))
  rw [appendRecord_eq]
  exact queued.of_same rfl rfl rfl rfl rfl

theorem State.takeCandidate_barsInv {s : State} (h : BarsInv s) {j : Expansion} (hj : j.fits s.bars) (v : Verdict) :
    BarsInv (s.takeCandidate j v) := by
  unfold State.takeCandidate
  split
  · refine appendRecord_barsInv h (fun n => (hj n).2) (fun on => ?_)
    cases hn : s.queue.newest with
    | none => exact blankRecord_fits s.bars
    | some r => exact h.fits on (Queue.newest_held hn)
  · exact h

theorem execExpansionComplete_barsInv {s t : State} (h : BarsInv s) (ht : execExpansionComplete s = .next t) :
    BarsInv t := by
  unfold execExpansionComplete at ht
  split at ht
  · cases ht
    exact h
  · next j hj =>
    split at ht <;> cases ht
    · have idle : BarsInv { s with expander := { s.expander with job := none } } := h.setJob nofun
      exact State.releaseWaiting_barsInv (State.takeCandidate_barsInv idle (h.job hj) _)
    · exact h

/-! ### The store and the classes (R23 to R26, R33, R58, R67) -/

theorem Engine.setClass_get (e : Engine) (c : ClassIx) (k : DriveClass) (d : ClassIx) :
    (e.setClass c k).classes[d] = if d = c then k else e.classes[d] := by
  by_cases hd : d = c
  · subst hd
    simp [Engine.setClass]
  · have : c.val ≠ d.val := fun e => hd (Fin.ext e.symm)
    simp [Engine.setClass, hd, this]

theorem Engine.setClass_spn {e : Engine} {c : ClassIx} {k : DriveClass} (h : k.spn = e.classes[c].spn) (d : ClassIx) :
    (e.setClass c k).classes[d].spn = e.classes[d].spn := by
  rw [Engine.setClass_get]
  split
  · next hd =>
    subst hd
    exact h
  · rfl

theorem DriveClass.outdated_spn (k : DriveClass) : k.outdated.spn = k.spn := by
  unfold DriveClass.outdated
  split <;> rfl

theorem Engine.toldOfWrite_spn (e : Engine) (addr : Nat) (d : ClassIx) :
    (e.toldOfWrite addr).classes[d].spn = e.classes[d].spn := by
  rw [Engine.toldOfWrite_class]
  split <;> rfl

theorem State.deliver_barsInv {s : State} (h : BarsInv s) (c : Client) (o : ReadOutcome) : BarsInv (s.deliver c o) := by
  cases c with
  | expander =>
    show BarsInv (s.deliverExpander o)
    cases hj : s.expander.job with
    | none =>
      simp only [State.deliverExpander, hj]
      exact h
    | some j =>
      rw [State.deliverExpander_eq hj]
      refine h.setJob (e := { s.expander with job := some (j.fetched o) }) (fun k hk => ?_)
      cases hk
      exact (h.job hj).fetched o
  | service =>
    exact h.of_same (s.deliverRead_bars o) (s.deliverRead_engine o) (s.deliverRead_node o) (s.deliverRead_queue o)
      (s.deliverRead_expander o)
  | engine =>
    show BarsInv (s.deliverEngine o)
    unfold State.deliverEngine
    split
    · exact h
    · split
      · exact h
      · split
        · exact h.setEngine (Engine.setClass_spn rfl)
        · dsimp only
          split <;> exact h

theorem State.finishAccess_barsInv {s : State} (h : BarsInv s) (a : Access) : BarsInv (s.finishAccess a) := by
  unfold State.finishAccess
  split
  · dsimp only
    split
    · exact h
    · refine State.releaseWaiting_barsInv ?_
      exact h.setEngine (s.engine.toldOfWrite_spn a.addr)
  · split
    · exact h
    · refine State.deliver_barsInv ?_ _ _
      exact h

theorem State.grant_barsInv {s : State} (h : BarsInv s) : BarsInv s.grant :=
  h.of_same s.grant_bars s.grant_engine s.grant_node s.grant_queue s.grant_expander

theorem State.present_barsInv {s : State} (h : BarsInv s) (c : Client) : BarsInv (s.present c) :=
  State.grant_barsInv (s := { s with store := s.store.setWait c true }) h

theorem execWordAccessComplete_barsInv {s t : State} (h : BarsInv s) (ht : execWordAccessComplete s = .next t) :
    BarsInv t := by
  unfold execWordAccessComplete at ht
  split at ht
  · cases ht
    exact h
  · next a _ =>
    split at ht <;> cases ht
    exact State.grant_barsInv (State.finishAccess_barsInv (s := { s with store := { s.store with access := none } }) h a)

/-- A swap keeps the steps per needle, and plans the pending records again where they are (R67, R104). -/
theorem State.rePlan_barsInv {s : State} (h : BarsInv s) : BarsInv s.rePlan := by
  unfold State.rePlan
  split
  · exact h
  · next prev _ =>
    refine h.setQueue (fun on r hr => ?_)
    rw [Queue.mem_held] at hr
    rcases hr with hr | hr | hr
    · exact h.fits on (Queue.mem_held.mpr (Or.inl hr))
    · exact h.fits on (Queue.mem_held.mpr (Or.inr (Or.inl hr)))
    · exact planAll_fits s (fun x hx => h.fits on (Queue.mem_held.mpr (Or.inr (Or.inr hx)))) prev r hr

theorem execCommitSwap_barsInv {s t : State} (h : BarsInv s) (ht : execCommitSwap s = .next t) : BarsInv t := by
  unfold execCommitSwap at ht
  split at ht
  · cases ht
    exact h
  · next c _ =>
    split at ht <;> cases ht
    · exact h
    · exact State.rePlan_barsInv (h.setEngine (e := s.engine.swapped c) (Engine.setClass_spn rfl))

end Sys2Proof.Machine


-- ==== Every step keeps the bars (O59) ====
namespace Sys2Proof.Machine

/-! ### Bar and class parameters (R56, R57, R109 to R111) -/

section
variable {s : State}

theorem anyBar_false {bars : Vector Bar 16} {p : Bar → Bool} (h : anyBar bars p = false) (n : BarIx) : p bars[n] = false := by
  have := List.any_eq_false.mp h n (List.mem_finRange n)
  simpa using this

/-- A class's steps per needle change while its bars are STILL and, when referenced, inside the new travel (R56). -/
theorem BarsInv.setSpn (h : BarsInv s) {c : ClassIx} {spn : Nat} (free : classRefusal s c = none)
    (fits : spnTooLow s c spn = false) :
    BarsInv { s with engine := s.engine.setClass c { s.engine.classes[c].outdated with spn := spn } } := by
  have idle : classBusy s c = false := by
    unfold classRefusal at free
    split at free
    · cases free
    · split at free
      · cases free
      · split at free
        · cases free
        · next busy => simpa using busy
  refine BarsInv.intro (fun n => ?_) (fun on _ => h.referenced on) (fun on _ => h.fits on) (fun _ => h.job)
  show s.bars[n].sound ((s.engine.setClass c { s.engine.classes[c].outdated with spn := spn }).classes[s.bars[n].cls]).spn
  rw [Engine.setClass_get]
  split
  · next hc =>
    have hm : s.bars[n].motion = .still := by
      have := anyBar_false idle n
      simpa [-Fin.getElem_fin, hc, Bar.not_busy] using this
    have travel : s.bars[n].referenced = true → s.bars[n].pos ≤ s.bars[n].limit * spn := by
      have := anyBar_false fits n
      simpa [-Fin.getElem_fin, hc] using this
    have sound := h.sound n
    obtain ⟨here, next⟩ := sound.still hm
    exact Bar.sound_still hm here next travel (fun hu => (sound.unreferenced hu).1)
  · exact h.sound n

/-- A bar that is STILL takes another class or another travel limit, inside its new travel when it is referenced (R57, R111). -/
theorem Bar.sound.settled {b : Bar} {spn : Nat} (h : b.sound spn) (hm : b.motion = .still) {spn' limit : Nat} (cls : ClassIx)
    (fits : ¬(b.referenced = true ∧ limit * spn' < b.pos)) : { b with cls := cls, limit := limit }.sound spn' := by
  obtain ⟨here, next⟩ := h.still hm
  exact Bar.sound_still hm here next (fun hr => Nat.le_of_not_lt fun hlt => fits ⟨hr, hlt⟩)
    (fun hu => (h.unreferenced hu).1)

/-! ### ARM, DISARM, RESTART and RESUME (R76, R118, R140 to R150) -/

theorem notReadyReason_referenced (ready : notReadyReason s = none) (n : BarIx) (hm : s.bars[n].mode = .motion) :
    s.bars[n].referenced = true := by
  unfold notReadyReason at ready
  split at ready
  · cases ready
  · split at ready
    · cases ready
    · split at ready
      · cases ready
      · next unreferenced =>
        have := anyBar_false (by simpa [anyMotionBar] using unreferenced) n
        simpa [-Fin.getElem_fin, hm] using this

theorem State.activateTrims_barsInv (h : BarsInv s) : BarsInv { s with bars := activateTrims s.bars } :=
  h.frame (activateTrims_sameTravel s.bars) (fun _ => rfl) (fun on => ⟨on, fun _ hr => hr⟩) (Or.inr rfl)

/-- ARM holds the origin record alone, and finds every MOTION bar referenced (R76, R140, R141). -/
theorem State.armed_barsInv (h : BarsInv s) (ready : notReadyReason s = none) (tag : Word) : BarsInv (s.armed tag) := by
  have referenced := notReadyReason_referenced ready
  have trims := State.activateTrims_barsInv h
  have same := activateTrims_sameTravel s.bars
  refine BarsInv.intro (fun n => trims.sound_of_same (t := s.armed tag) rfl rfl n) (fun _ n hm => ?_) (fun _ r hr n => ?_)
    (fun _ => trims.job)
  · obtain ⟨mode, reference, -⟩ := same n
    exact reference.trans (referenced n (mode.symm.trans hm))
  · obtain rfl : r = originRecord s tag := by simpa [State.armed, Queue.held, Queue.initial] using hr
    show _ ≤ _ ∧ _ ≤ _
    rw [show (s.armed tag).bars[n].limit = s.bars[n].limit from (same n).limit]
    exact originRecord_fits h tag referenced n

/-- DISARM and RESTART hold no record and leave the node in OFFLINE (R149, R150). -/
theorem State.disarmed_barsInv (h : BarsInv s) :
    BarsInv { s with queue := s.queue.emptied, bars := activateTrims s.bars, node := s.node.disarmed } :=
  h.frame (activateTrims_sameTravel s.bars) (fun _ => rfl) (fun on => absurd rfl on) (Or.inr rfl)

/-- A required needle position is one of a record held (R144). -/
theorem requiredNeedle_le {bars : Vector Bar 16} (fits : ∀ r ∈ s.queue.held, r.fits bars) {n : BarIx} {needle : Nat}
    (hn : requiredNeedle s n = some needle) : needle ≤ bars[n].limit := by
  unfold requiredNeedle at hn
  dsimp only at hn
  split at hn
  · next cur _ _ hcur _ _ =>
    have current := fits cur (Queue.mem_held.mpr (Or.inr (Or.inl hcur))) n
    split at hn
    · split at hn <;> cases hn
      · next r hr => exact (fits r (Queue.mem_held.mpr (Or.inl (List.mem_of_getLast? hr))) n).2
      · exact current.1
    · split at hn <;> cases hn
      · exact current.1
      · exact current.2
  · cases hn

theorem giveCatchup_get (s : State) (n : BarIx) :
    (giveCatchup s (Vector.ofFn (catchupTarget s)))[n] = s.bars[n]
      ∨ ∃ t, catchupTarget s n = some t
        ∧ (giveCatchup s (Vector.ofFn (catchupTarget s)))[n] = s.bars[n].giveTarget (s.rampOf s.bars[n]) t := by
  cases ht : catchupTarget s n with
  | none => exact Or.inl (by simp [giveCatchup, ht])
  | some t => exact Or.inr ⟨t, rfl, by simp [giveCatchup, ht]⟩

/-- The catch-up gives each MOTION bar, referenced in HOLD, a target inside its travel (R144, R145). -/
theorem State.beginCatchup_barsInv (h : BarsInv s) (hold : s.node.state = .hold) : BarsInv s.beginCatchup := by
  have on : s.node.state ≠ .offline := by rw [hold]; nofun
  have given : BarsInv { s with bars := giveCatchup s (Vector.ofFn (catchupTarget s)) } := by
    refine h.setBars (fun n => ?_) (fun n => ?_) <;> rcases giveCatchup_get s n with e | ⟨t, ht, e⟩ <;> rw [e]
    · exact h.sound n
    · unfold catchupTarget at ht
      split at ht
      · next motion =>
        obtain ⟨needle, hn, rfl⟩ := Option.map_eq_some_iff.mp ht
        exact (h.sound n).giveTarget (h.referenced on motion) _
          (Nat.mul_le_mul_right _ (requiredNeedle_le (fun _ => h.fits on) hn))
      · cases ht
    · exact Bar.sameSpan_refl _
    · exact Bar.giveTarget_sameSpan _ _ _
  rw [State.beginCatchup_eq]
  exact State.evaluateCatchup_barsInv (given.setNode fun _ => on)

/-! ### JOG (R153 to R155) -/

/-- A JOG of a referenced bar goes to a target inside its travel (R154). -/
theorem jogReferenced_barsInv (h : BarsInv s) {n : BarIx} (hm : s.bars[n].motion = .still)
    (hr : s.bars[n].referenced = true) (ramp : List Nat) (steps : Int) : BarsInv (jogReferenced s n ramp steps).1 := by
  unfold jogReferenced
  dsimp only
  split
  · exact h
  · exact h.setBar_moved ((h.sound n).startToward hm hr _ (Nat.min_le_right _ _)) (Bar.startToward_sameSpan _ _ _)

/-- A JOG of an unreferenced bar leaves its position and its target 0 (R155). -/
theorem jogUnreferenced_barsInv (h : BarsInv s) {n : BarIx} (hm : s.bars[n].motion = .still)
    (hu : s.bars[n].referenced = false) (ramp : List Nat) (steps : Int) : BarsInv (jogUnreferenced s n ramp steps).1 := by
  have sound := h.sound n
  unfold jogUnreferenced
  split
  · exact h
  · next moves =>
    exact h.setBar_moved (Bar.startSteps_sound (Int.natAbs_pos.mpr moves) (sound.still hm).2
      (fun _ => ⟨(sound.unreferenced hu).1, rfl⟩) (fun hr => absurd (hu.symm.trans hr) nofun)
      (fun hr => absurd (hu.symm.trans hr) nofun)) ⟨rfl, rfl, rfl, rfl⟩

end

/-! ### Every service operation -/

/-- What a service operation is taken with: the invariant, and no expansion in progress (R46). -/
def BarsInvIdle (s : State) : Prop := BarsInv s ∧ s.expander.job = none

section
variable {s : State}

theorem BarsInvIdle.refused (hs : BarsInvIdle s) {r : State × Reply} (hr : refusedBy s r) : BarsInvIdle r.1 := by
  rw [hr.1]
  exact hs

theorem BarsInvIdle.setBar_sameTravel (hs : BarsInvIdle s) {n : BarIx} {b : Bar} (same : s.bars[n].sameTravel b) :
    BarsInvIdle (s.setBar n b) := ⟨hs.1.setBar_sameTravel same, hs.2⟩

theorem opLoad_barsInv (hs : BarsInvIdle s) (start : BitVec 24) (count : Byte) (data : List Word) :
    BarsInvIdle (opLoad start count data s).1 := by
  rcases opLoad_cases start count data s with e | ⟨-, e⟩
  · exact hs.refused e
  · rw [e]
    exact ⟨State.present_barsInv (s := { s with store := { s.store with staging := stagedWords start.toNat data } }) hs.1 _,
      (congrArg Expander.job (State.present_expander _ _)).trans hs.2⟩

theorem opSetWindow_barsInv (hs : BarsInvIdle s) (w : WindowParam) (v : Word) : BarsInvIdle (opSetWindow w v s).1 := by
  rcases opSetWindow_cases w v s with e | ⟨_, -, off, e⟩
  · exact hs.refused e
  · rw [e]
    exact ⟨hs.1.setNode fun on => absurd (by cases w <;> exact off) on, hs.2⟩

theorem opSetSpn_barsInv (hs : BarsInvIdle s) (cls : Byte) (v : Word) : BarsInvIdle (opSetSpn cls v s).1 := by
  rcases opSetSpn_cases cls v s with e | ⟨_, _, -, -, free, fits, e⟩
  · exact hs.refused e
  · rw [e]
    exact ⟨hs.1.setSpn free fits, hs.2⟩

theorem opSetRampLength_barsInv (hs : BarsInvIdle s) (cls : Byte) (v : Word) : BarsInvIdle (opSetRampLength cls v s).1 := by
  rcases opSetRampLength_cases cls v s with e | ⟨_, _, -, -, -, e⟩
  · exact hs.refused e
  · rw [e]
    exact ⟨hs.1.setEngine (Engine.setClass_spn (DriveClass.outdated_spn _)), hs.2⟩

theorem opSetMode_barsInv (hs : BarsInvIdle s) (bar : Byte) (v : Word) : BarsInvIdle (opSetMode bar v s).1 := by
  rcases opSetMode_cases bar v s with e | ⟨n, m, -, -, off, still, e⟩
  · exact hs.refused e
  · rw [e]
    obtain ⟨cls, limit⟩ := s.bars[n].enterMode_kept m
    refine ⟨hs.1.setBar ?_ (fun on => absurd off on) (Or.inl limit), hs.2⟩
    rw [State.classOf_congr s cls]
    exact (hs.1.sound n).enterMode (Bar.not_busy.mp still) m

theorem opSetClass_barsInv (hs : BarsInvIdle s) (bar : Byte) (v : Word) : BarsInvIdle (opSetClass bar v s).1 := by
  rcases opSetClass_cases bar v s with e | ⟨n, c, -, -, off, still, fits, e⟩
  · exact hs.refused e
  · rw [e]
    exact ⟨hs.1.setBar ((hs.1.sound n).settled (Bar.not_busy.mp still) c fits) (fun on => absurd off on) (Or.inl rfl), hs.2⟩

theorem opSetTravelLimit_barsInv (hs : BarsInvIdle s) (bar : Byte) (v : Word) :
    BarsInvIdle (opSetTravelLimit bar v s).1 := by
  rcases opSetTravelLimit_cases bar v s with e | ⟨n, l, -, -, off, still, fits, e⟩
  · exact hs.refused e
  · rw [e]
    exact ⟨hs.1.setBar ((hs.1.sound n).settled (Bar.not_busy.mp still) s.bars[n].cls fits) (fun on => absurd off on)
      (Or.inr ⟨off, hs.2⟩), hs.2⟩

theorem opCommitClass_barsInv (hs : BarsInvIdle s) (cls : Byte) : BarsInvIdle (opCommitClass cls s).1 := by
  rcases opCommitClass_cases cls s with e | ⟨c, -, -, -, -, e⟩
  · exact hs.refused e
  · rw [e]
    refine ⟨State.present_barsInv ?_ _, (congrArg Expander.job (State.present_expander _ _)).trans hs.2⟩
    exact hs.1.setEngine (Engine.setClass_spn rfl)

theorem opArm_barsInv (hs : BarsInvIdle s) (tag : Word) : BarsInvIdle (opArm tag s).1 := by
  rcases opArm_cases tag s with e | ⟨-, -, -, ready, e⟩
  · exact hs.refused e
  · rw [e]
    exact ⟨State.armed_barsInv hs.1 ready tag, hs.2⟩

theorem opResume_barsInv (hs : BarsInvIdle s) : BarsInvIdle (opResume s).1 := by
  rcases opResume_cases s with e | ⟨hold, -, -, e⟩
  · exact hs.refused e
  · have job : s.beginCatchup.expander.job = none := by
      rw [State.beginCatchup_eq, State.evaluateCatchup_expander]
      exact hs.2
    have begun : (opResume s).1 = s.beginCatchup := by rw [e]
    rw [begun]
    exact ⟨State.beginCatchup_barsInv hs.1 hold, job⟩

theorem opRestart_barsInv (hs : BarsInvIdle s) : BarsInvIdle (opRestart s).1 := by
  rcases opRestart_cases s with e | ⟨-, -, e⟩
  · exact hs.refused e
  · rw [e]
    exact ⟨(State.disarmed_barsInv hs.1).of_same rfl rfl rfl rfl rfl, hs.2⟩

theorem opJog_barsInv (hs : BarsInvIdle s) (bar : Byte) (v : Word) : BarsInvIdle (opJog bar v s).1 := by
  rcases opJog_cases bar v s with e | ⟨n, steps, ramp, -, -, -, still, -, e⟩
  · exact hs.refused e
  · have hm := Bar.not_busy.mp still
    rw [e]
    split
    · next hr =>
      refine ⟨jogReferenced_barsInv hs.1 hm hr ramp steps, ?_⟩
      unfold jogReferenced
      dsimp only
      split <;> exact hs.2
    · next hu =>
      refine ⟨jogUnreferenced_barsInv hs.1 hm (Bool.eq_false_iff.mpr hu) ramp steps, ?_⟩
      unfold jogUnreferenced
      split <;> exact hs.2

theorem opReference_barsInv (hs : BarsInvIdle s) (bar : Byte) : BarsInvIdle (opReference bar s).1 := by
  rcases opReference_cases bar s with e | ⟨n, -, jog, still, -, e⟩
  · exact hs.refused e
  · rw [e]
    have sound := hs.1.sound n
    exact ⟨hs.1.setBar_moved (sound.startLeg jog (sound.still (Bar.not_busy.mp still)).2 _ _) ⟨rfl, rfl, rfl, rfl⟩, hs.2⟩

end

/-- No service operation begins an expansion, and each keeps the invariant where none is in progress. -/
theorem immediateOp_barsInv (op : ServiceOp) (data : List Word) (s : State) (hs : BarsInvIdle s) :
    BarsInvIdle (immediateOp op data s).1 := by
  have parameter : ∀ {n : BarIx} {b : Bar}, s.bars[n].sameTravel b → BarsInvIdle (s.setBar n b) := hs.setBar_sameTravel
  unfold immediateOp
  split
  · exact hs
  · rename_i hcount
    clear hcount
    cases op <;> dsimp only
    case load => exact opLoad_barsInv hs _ _ _
    case setWindow => exact opSetWindow_barsInv hs _ _
    case setStepsPerNeedle => exact opSetSpn_barsInv hs _ _
    case setRampLength => exact opSetRampLength_barsInv hs _ _
    case setMode => exact opSetMode_barsInv hs _ _
    case setClass => exact opSetClass_barsInv hs _ _
    case setTravelLimit => exact opSetTravelLimit_barsInv hs _ _
    case commitClass => exact opCommitClass_barsInv hs _
    case arm => exact opArm_barsInv hs _
    case disarm => exact ⟨State.disarmed_barsInv hs.1, hs.2⟩
    case resume => exact opResume_barsInv hs
    case restart => exact opRestart_barsInv hs
    case jog => exact opJog_barsInv hs _ _
    case reference => exact opReference_barsInv hs _
    case getParam => rcases opGetParam_cases _ _ s with e | ⟨_, -, e⟩; exact hs.refused e; rw [e]; exact hs
    case setRowCount bank v =>
      rcases opSetRowCount_cases bank v s with e | ⟨_, -, e⟩; exact hs.refused e; rw [e]; cases bank <;> exact hs
    case setMargin v => rcases opSetMargin_cases v s with e | ⟨_, -, e⟩; exact hs.refused e; rw [e]; exact hs
    case setStandstillTimeout v =>
      rcases opSetStandstillTimeout_cases v s with e | ⟨_, -, e⟩; exact hs.refused e; rw [e]; exact hs
    case setGuardEnable v =>
      rcases opSetGuardEnable_cases v s with e | ⟨-, e⟩ | ⟨-, -, e⟩; exact hs.refused e; all_goals (rw [e]; exact hs)
    case setDiagnosticCheckMode v =>
      rcases opSetDiagMode_cases v s with e | ⟨-, -, e⟩ | ⟨-, e⟩; exact hs.refused e; all_goals (rw [e]; exact hs)
    case setDiagnosticCheckValue v =>
      rcases opSetDiagValue_cases v s with e | ⟨_, -, e⟩; exact hs.refused e; rw [e]; exact hs
    case setLapSet b v =>
      rcases opSetLapSet_cases b v s with e | ⟨_, _, -, -, -, e⟩; exact hs.refused e
      rw [e]; exact parameter ⟨rfl, rfl, rfl, rfl, rfl, rfl, rfl, rfl⟩
    case setTrim b v =>
      rcases opSetTrim_cases b v s with e | ⟨_, _, -, -, e⟩; exact hs.refused e
      rw [e]; exact parameter ⟨rfl, rfl, rfl, rfl, rfl, rfl, rfl, rfl⟩
    case setHomePosition b v =>
      rcases opSetHomePosition_cases b v s with e | ⟨_, _, -, -, e⟩; exact hs.refused e
      rw [e]; exact parameter ⟨rfl, rfl, rfl, rfl, rfl, rfl, rfl, rfl⟩
    case setHomePolarity b v =>
      rcases opSetHomePolarity_cases b v s with e | ⟨_, _, -, -, e⟩; exact hs.refused e
      rw [e]; exact parameter ⟨rfl, rfl, rfl, rfl, rfl, rfl, rfl, rfl⟩
    case getStatus => rw [opGetStatus_state]; exact hs
    case getFaults => rw [opGetFaults_state]; exact hs
    case clearFault t b =>
      rcases opClearFault_cases t b s with e | ⟨-, e⟩ | ⟨_, -, -, e⟩ | ⟨-, e⟩ | ⟨-, e⟩; exact hs.refused e
      all_goals (rw [e]; exact hs)
    all_goals exact hs

theorem State.beginRead_barsInv (s : State) (start : BitVec 24) (count : Byte) (d : Deferred) (hs : BarsInvIdle s) :
    BarsInvIdle (s.beginRead start count d) := by
  obtain ⟨h, idle⟩ := hs
  refine ⟨State.present_barsInv ?_ _, by simpa [State.beginRead] using idle⟩
  exact h

theorem State.takeRequest_barsInv {s : State} (h : BarsInv s) (free : s.pathOccupied = false) (d : Deferred) :
    BarsInv (s.takeRequest d) := by
  have idle : s.expander.job = none := by
    obtain ⟨-, job⟩ := Bool.or_eq_false_iff.mp free
    simpa using job
  exact (State.takeRequest_keeps (fun _ _ h => h) immediateOp_barsInv State.beginRead_barsInv ⟨h, idle⟩ d).1

theorem State.takeOrDefer_barsInv {s : State} (h : BarsInv s) (d : Deferred) : BarsInv (s.takeOrDefer d) := by
  unfold State.takeOrDefer
  split
  · exact h
  · next free =>
    obtain ⟨path, -⟩ := Bool.or_eq_false_iff.mp (Bool.eq_false_iff.mpr free)
    exact State.takeRequest_barsInv h path d

theorem State.serviceRequest_barsInv {s : State} (h : BarsInv s) (op : ServiceOp) (env : Envelope) :
    BarsInv (s.serviceRequest op env) := by
  unfold State.serviceRequest
  split
  · exact h
  · refine State.takeOrDefer_barsInv ?_ _
    exact h

/-! ### What the ring brings -/

theorem State.serviceFrame_barsInv {s : State} (h : BarsInv s) (f : ServiceFrame) : BarsInv (s.serviceFrame f) := by
  unfold State.serviceFrame
  split
  · exact h
  · split
    · exact State.serviceRequest_barsInv h _ _
    · exact h

/-- A corrupt frame reaches the bars in no way, and the node as a READ at most (R179). -/
theorem State.corrupt_barsInv {s : State} (h : BarsInv s) (j : Judgement) (cs : List Byte) : BarsInv (s.corrupt j cs) := by
  unfold State.corrupt State.corruptAddressed
  dsimp only
  split
  · split
    · split
      · refine State.takeOrDefer_barsInv ?_ _
        exact h
      · exact h
    · exact h
    · split <;> exact h
  · exact h

theorem State.receive_barsInv {s : State} (h : BarsInv s) (chars : List RxChar) : BarsInv (s.receive chars) := by
  unfold State.receive
  split
  · exact h
  · split
    · exact h
    · exact State.courseFrame_barsInv h _
    · exact State.serviceFrame_barsInv h _
    · exact State.corrupt_barsInv h _ _

/-! ### Every command -/

theorem execIncrement_barsInv {s t : State} (h : BarsInv s) (a b level : Bool)
    (ht : execIncrement a b level s = .next t) : BarsInv t := by
  have taken : ∀ forward, BarsInv ((s.settleIndex.adoptLevels a b).takeIncrement forward level) := fun forward =>
    State.takeIncrement_barsInv (s := s.settleIndex.adoptLevels a b) (State.settleIndex_barsInv h) forward level
  unfold execIncrement at ht
  cases ht
  split
  · exact h
  · split
    · exact h
    · exact h
    · exact taken true
    · exact taken false

theorem execDeferredServiceOp_barsInv {s t : State} (h : BarsInv s) (homes : BitVec 16)
    (ht : execDeferredServiceOp homes s = .next t) : BarsInv t := by
  unfold execDeferredServiceOp at ht
  dsimp only at ht
  split at ht
  · cases ht
    exact h
  · next d rest _ =>
    cases ht
    split
    · exact h
    · next free =>
      exact State.takeRequest_barsInv (s := { s with homes := homes, ring := { s.ring with deferred := rest } }) h
        (Bool.eq_false_iff.mpr free) d

/-- Bars in their reset state, with no record held and no expansion (R77, R132). -/
theorem BarsInv.of_initial {s : State} (bars : ∀ n : BarIx, ∃ dir, s.bars[n] = { Bar.initial with dirHigh := dir })
    (off : s.node.state = .offline) (job : s.expander.job = none) : BarsInv s := by
  refine BarsInv.intro (fun n => ?_) (fun on => absurd off on) (fun on => absurd off on)
    (fun j hj => absurd (job.symm.trans hj) nofun)
  obtain ⟨dir, e⟩ := bars n
  rw [e]
  exact Bar.initial_sound _

/-- The end of the clear, the standstill and the ring's status leave all that the invariant reads. -/
theorem exec_status_barsInv {i : Instr} (hi : i = .standstillExpiry ∨ i = .storeClearDone ∨ i = .ringBreak ∨ i = .ringSilence)
    {s t : State} (h : BarsInv s) (ht : exec i s = .next t) : BarsInv t := by
  rcases hi with rfl | rfl | rfl | rfl <;> cases ht <;> split
  · exact h
  · exact h
  · refine State.grant_barsInv ?_
    exact h
  all_goals exact h

theorem exec_barsInv {i : Instr} {s t : State} (h : BarsInv s) (ht : exec i s = .next t) : BarsInv t := by
  have service : ∀ op env, i.request = some (op, env) → BarsInv t := fun op env hreq => by
    rw [exec_request hreq] at ht
    cases ht
    exact State.serviceRequest_barsInv (s := { s with homes := i.homesSeen s.homes }) h op env
  cases i
  case powerOn =>
    cases ht
    exact BarsInv.of_initial (fun n => ⟨false, by simp [State.poweredOn, Bar.initial]⟩) rfl rfl
  case pinReset =>
    cases ht
    exact BarsInv.of_initial (fun n => ⟨_, s.pinReset_bar n⟩) rfl rfl
  case resetEnd => cases ht; exact h
  case increment => exact execIncrement_barsInv h _ _ _ ht
  case indexMissing => cases ht; exact State.settleIndex_barsInv h
  case wordAccessComplete => exact execWordAccessComplete_barsInv h ht
  case commitSwap => exact execCommitSwap_barsInv h ht
  case expansionComplete => exact execExpansionComplete_barsInv h ht
  case stepPulse n => exact execStepPulse_barsInv h n ht
  case stepPulseEnd => cases ht; exact h.setBar_sameTravel ⟨rfl, rfl, rfl, rfl, rfl, rfl, rfl, rfl⟩
  case moveComplete n => exact execMoveComplete_barsInv h n ht
  case searchSample n homes => exact execSearchSample_barsInv h n homes ht
  case courseFrame f => cases ht; exact State.courseFrame_barsInv h f
  case corruptFrame => cases ht; exact State.receive_barsInv h _
  case serviceFramePass => cases ht; exact State.serviceFrame_barsInv h _
  case deferredServiceOp => exact execDeferredServiceOp_barsInv h _ ht
  case standstillExpiry | storeClearDone | ringBreak | ringSilence => exact exec_status_barsInv (by simp) h ht
  all_goals exact service _ _ rfl

/-- The passing of time counts down within each motion and leaves its steps (R115, R158). -/
theorem State.tick_barsInv {s : State} (h : BarsInv s) : BarsInv s.tick := by
  have ticked : ∀ n : BarIx, (mapBars s.bars Bar.tick)[n] = s.bars[n].tick := fun n => mapBars_get s.bars Bar.tick n.val n.isLt
  have bars : BarsInv { s with bars := mapBars s.bars Bar.tick } := by
    refine h.setBars (fun n => ?_) (fun n => ?_) <;> rw [ticked]
    · exact (h.sound n).tick
    · exact ⟨rfl, rfl, rfl, rfl⟩
  have engine := bars.setEngine (e := { s.engine with commit := s.engine.commit.map Commit.tick }) (fun _ => rfl)
  exact engine.of_same rfl rfl rfl rfl rfl

theorem State.idle_barsInv {s : State} (h : BarsInv s) : BarsInv s.idle := by
  have queued : ∀ {u : State} es, BarsInv u → BarsInv (u.queueDue es) := fun es hu => by
    unfold State.queueDue
    split <;> exact hu
  unfold State.idle
  dsimp only
  split
  · exact queued _ (State.tick_barsInv h)
  · exact queued _ h

/-- Settles O59: each motion keeps its bar's record sound, each target comes from a record within the travel limits, and what
changes a limit, a class or a reference is taken in OFFLINE from a bar that stands STILL. -/
theorem stepKeepsBarsInv : Obligations.StepKeepsBarsInv := by
  intro s t h ht
  unfold step at ht
  split at ht
  · refine exec_barsInv ?_ ht
    exact h
  · cases ht
    exact State.idle_barsInv h

end Sys2Proof.Machine


-- ==== Global bar numbers (O6) ====
namespace Sys2Proof.Machine

/-! ### The straps are read at power-on and at a pin reset's end alone (R178, R184) -/

@[simp] theorem State.beginRead_ring (s : State) (start : BitVec 24) (count : Byte) (d : Deferred) :
    (s.beginRead start count d).ring = s.ring := by
  simp [State.beginRead]

@[simp] theorem State.takeRequest_straps (s : State) (d : Deferred) : (s.takeRequest d).ring.straps = s.ring.straps := by
  rcases s.takeRequest_cases d with ⟨a, c, -, -, e⟩ | ⟨a, c, r, -, -, e⟩ | ⟨-, e⟩ <;> rw [e]
  · rw [State.beginRead_ring]
  · rfl
  · show (immediateOp d.op d.env.data s).1.ring.straps = _
    rw [(immediateOp_sameOutside d.op d.env.data s).1]

@[simp] theorem State.takeOrDefer_straps (s : State) (d : Deferred) : (s.takeOrDefer d).ring.straps = s.ring.straps := by
  unfold State.takeOrDefer
  split
  · rfl
  · exact s.takeRequest_straps d

@[simp] theorem State.serviceRequest_straps (s : State) (op : ServiceOp) (env : Envelope) :
    (s.serviceRequest op env).ring.straps = s.ring.straps := by
  unfold State.serviceRequest
  split
  · rfl
  · exact State.takeOrDefer_straps _ _

@[simp] theorem State.handOver_straps (s : State) (ticket : Nat) (f : CourseFrame) :
    (s.handOver ticket f).ring.straps = s.ring.straps := by
  unfold State.handOver
  split
  · rfl
  · rw [State.beginExpansion_ring]

@[simp] theorem handOverWaiting_straps (fs : List (Nat × CourseFrame)) (s : State) :
    (handOverWaiting fs s).ring.straps = s.ring.straps := by
  induction fs generalizing s with
  | nil => rfl
  | cons e rest ih =>
    obtain ⟨ticket, f⟩ := e
    simp only [handOverWaiting]
    split
    · exact s.handOver_straps ticket f
    · exact (ih _).trans (s.handOver_straps ticket f)

@[simp] theorem State.releaseWaiting_straps (s : State) : s.releaseWaiting.ring.straps = s.ring.straps := by
  unfold State.releaseWaiting
  split
  · rfl
  · exact handOverWaiting_straps _ s

@[simp] theorem State.courseFrame_straps (s : State) (f : CourseFrame) : (s.courseFrame f).ring.straps = s.ring.straps := by
  unfold State.courseFrame
  split
  · rfl
  · dsimp only
    split
    · rfl
    · exact State.handOver_straps _ _ _

@[simp] theorem State.serviceFrame_straps (s : State) (f : ServiceFrame) :
    (s.serviceFrame f).ring.straps = s.ring.straps := by
  unfold State.serviceFrame
  split
  · rfl
  · split
    · exact s.serviceRequest_straps _ _
    · rfl

@[simp] theorem State.corrupt_straps (s : State) (j : Judgement) (cs : List Byte) :
    (s.corrupt j cs).ring.straps = s.ring.straps := by
  unfold State.corrupt State.corruptAddressed
  dsimp only
  split
  · split
    · split
      · exact State.takeOrDefer_straps _ _
      · rfl
    · rfl
    · split <;> rfl
  · rfl

@[simp] theorem State.receive_straps (s : State) (chars : List RxChar) : (s.receive chars).ring.straps = s.ring.straps := by
  unfold State.receive
  split
  · rfl
  · split
    · rfl
    · exact s.courseFrame_straps _
    · exact s.serviceFrame_straps _
    · exact s.corrupt_straps _ _

@[simp] theorem State.deliver_straps (s : State) (c : Client) (o : ReadOutcome) :
    (s.deliver c o).ring.straps = s.ring.straps := by
  cases c with
  | expander => exact congrArg Ring.straps (s.deliverExpander_ring o)
  | engine => exact congrArg Ring.straps (s.deliverEngine_ring o)
  | service =>
    show (s.deliverRead o).ring.straps = _
    unfold State.deliverRead
    split
    · rfl
    · dsimp only
      split <;> rfl

@[simp] theorem State.finishAccess_straps (s : State) (a : Access) : (s.finishAccess a).ring.straps = s.ring.straps := by
  unfold State.finishAccess
  split
  · dsimp only
    split
    · rfl
    · exact State.releaseWaiting_straps _
  · split
    · rfl
    · exact State.deliver_straps _ _ _

theorem exec_increment_ring {a b level : Bool} {s t : State} (ht : exec (.increment a b level) s = .next t) :
    t.ring = s.ring := by
  have settled : s.settleIndex.ring = s.ring := by
    unfold State.settleIndex
    split
    · exact s.indexMissing_ring
    · rfl
  have taken : ∀ forward, ((s.settleIndex.adoptLevels a b).takeIncrement forward level).ring = s.ring := by
    intro forward
    obtain ⟨-, -, -, ring, -⟩ := (s.settleIndex.adoptLevels a b).takeIncrement_frame forward level
    exact ring.trans settled
  cases ht
  split
  · rfl
  · split
    · rfl
    · rfl
    · exact taken true
    · exact taken false

/-- The events of the store, the classes and the expansion leave the straps. -/
theorem exec_storeEvent_straps {i : Instr} (hi : i = .storeClearDone ∨ i = .wordAccessComplete ∨ i = .commitSwap
      ∨ i = .expansionComplete) {s t : State} (ht : exec i s = .next t) : t.ring.straps = s.ring.straps := by
  rcases hi with rfl | rfl | rfl | rfl
  · cases ht
    split
    · rw [State.grant_ring]
    · rfl
  · change execWordAccessComplete s = .next t at ht
    unfold execWordAccessComplete at ht
    split at ht
    · cases ht
      rfl
    · split at ht <;> cases ht
      rw [State.grant_ring, State.finishAccess_straps]
  · change execCommitSwap s = .next t at ht
    unfold execCommitSwap State.rePlan at ht
    split at ht
    · cases ht
      rfl
    · split at ht <;> cases ht
      · rfl
      · split <;> rfl
  · change execExpansionComplete s = .next t at ht
    unfold execExpansionComplete at ht
    split at ht
    · cases ht
      rfl
    · split at ht <;> cases ht
      · rw [State.releaseWaiting_straps]
        simp
      · rfl

/-- The bars' events and the ring's status leave the straps. -/
theorem exec_barEvent_straps {i : Instr} (hi : (∃ n, i = .stepPulse n) ∨ (∃ n, i = .stepPulseEnd n)
      ∨ (∃ n, i = .moveComplete n) ∨ (∃ n homes, i = .searchSample n homes) ∨ i = .standstillExpiry ∨ i = .ringBreak
      ∨ i = .ringSilence) {s t : State} (ht : exec i s = .next t) : t.ring.straps = s.ring.straps := by
  rcases hi with ⟨n, rfl⟩ | ⟨n, rfl⟩ | ⟨n, rfl⟩ | ⟨n, homes, rfl⟩ | rfl | rfl | rfl
  · change execStepPulse n s = .next t at ht
    unfold execStepPulse at ht
    split at ht <;> cases ht
    · split <;> rfl
    · rfl
    · rfl
  · cases ht
    rfl
  · change execMoveComplete n s = .next t at ht
    unfold execMoveComplete at ht
    split at ht <;> cases ht
    · split
      · rfl
      · rw [State.completeMove_ring]
    · rfl
    · rfl
  · change execSearchSample n homes s = .next t at ht
    unfold execSearchSample at ht
    dsimp only at ht
    split at ht <;> cases ht
    · rw [State.sampleSearch_ring]
    · rfl
    · rfl
  all_goals
    cases ht
    split <;> rfl

/-- No command but power-on and the pin reset's end changes the straps as read. -/
theorem exec_straps {i : Instr} {s t : State} (ht : exec i s = .next t)
    (hpower : ∀ straps a b homes, i ≠ .powerOn straps a b homes) (hend : ∀ straps a b, i ≠ .resetEnd straps a b) :
    t.ring.straps = s.ring.straps := by
  have service : ∀ op env, i.request = some (op, env) → t.ring.straps = s.ring.straps := fun op env hreq => by
    rw [exec_request hreq] at ht
    cases ht
    exact State.serviceRequest_straps { s with homes := i.homesSeen s.homes } op env
  cases i
  case powerOn => exact absurd rfl (hpower _ _ _ _)
  case resetEnd => exact absurd rfl (hend _ _ _)
  case pinReset => cases ht; rfl
  case increment => rw [exec_increment_ring ht]
  case indexMissing =>
    cases ht
    unfold State.settleIndex
    split
    · rw [State.indexMissing_ring]
    · rfl
  case storeClearDone | wordAccessComplete | commitSwap | expansionComplete => exact exec_storeEvent_straps (by simp) ht
  case stepPulse | stepPulseEnd | moveComplete | searchSample | standstillExpiry | ringBreak | ringSilence =>
    exact exec_barEvent_straps (by simp) ht
  case courseFrame f => cases ht; exact s.courseFrame_straps f
  case corruptFrame chars => cases ht; exact s.receive_straps chars
  case serviceFramePass f => cases ht; exact s.serviceFrame_straps f
  case deferredServiceOp homes =>
    change execDeferredServiceOp homes s = .next t at ht
    unfold execDeferredServiceOp at ht
    dsimp only at ht
    split at ht <;> cases ht
    · rfl
    · split
      · rfl
      · rw [State.takeRequest_straps]
  all_goals exact service _ _ rfl

/-! ### Global bar numbers (R42) -/

theorem localBar_none {address : Nat} {global : Byte} :
    localBar address global = none ↔ global.toNat < (address - 1) * 16 ∨ (address - 1) * 16 + 15 < global.toNat := by
  unfold localBar
  split
  · simp only [reduceCtorEq, false_iff]
    omega
  · simp only [true_iff]
    omega

/-- Settles O6: the numbers of an address by the definition of a local bar, and the address by the straps. -/
theorem globalBarNumbers : Obligations.GlobalBarNumbers := by
  refine ⟨fun s g l => localBar_some, fun s g => localBar_none, fun s g hg => localBar_none.mpr (Or.inr ?_), fun _ => rfl,
    fun c s t ht hpower hend => ?_, ?_, ?_⟩
  · have : s.ring.straps.toNat < 8 := s.ring.straps.isLt
    show (s.ring.straps.toNat + 1 - 1) * 16 + 15 < g.toNat
    omega
  · rw [Ring.address, Ring.address, exec_straps ht hpower hend]
  · intro straps a b homes s t ht
    cases ht
    rfl
  · intro straps a b s t ht
    cases ht
    rfl

end Sys2Proof.Machine


-- ==== The acceptance checks and the completion of an expansion (O35, O38) ====
namespace Sys2Proof.Machine

/-! ### Consecutive tags (R75, R81) -/

/-- The last of consecutive tags lies as far after the first as there are tags behind it. -/
theorem consecutive_last {a last : Word} {rest : List Word} (h : consecutive (a :: rest))
    (hl : (a :: rest).getLast? = some last) : last = a + BitVec.ofNat 16 rest.length := by
  induction rest generalizing a with
  | nil =>
    cases hl
    simp
  | cons b rest ih =>
    obtain ⟨rfl, hrest⟩ := h
    have := ih hrest hl
    rw [this, List.length_cons]
    bv_omega

/-- A tag is one of consecutive tags exactly where its distance below the last is less than their number (R81). -/
theorem mem_consecutive {tags : List Word} {last : Word} (h : consecutive tags) (hl : tags.getLast? = some last)
    (hlen : tags.length ≤ 65536) (tag : Word) : tag ∈ tags ↔ (last - tag).toNat < tags.length := by
  induction tags with
  | nil => cases hl
  | cons a rest ih =>
    have ends := consecutive_last h hl
    rw [List.length_cons] at hlen ⊢
    have farthest : tag = a ↔ (last - tag).toNat = rest.length := by
      rw [ends]
      bv_omega
    have behind : tag ∈ rest ↔ (last - tag).toNat < rest.length := by
      cases rest with
      | nil => simp
      | cons b rest => exact ih h.2 hl (by omega)
    rw [List.mem_cons, farthest, behind]
    omega

/-- The newest held record is the last of the held sequence (R75). -/
theorem Queue.newest_eq (q : Queue) : q.newest = q.held.getLast? := by
  unfold Queue.newest Queue.held Queue.beforePending
  rw [List.getLast?_append, List.getLast?_append]
  cases q.pending.getLast? with
  | some r => rfl
  | none => cases q.current <;> rfl

/-- In a queue whose tags are consecutive the distance of R81 finds exactly the held tags. -/
theorem Queue.isDuplicate_iff {q : Queue} (h : consecutive (q.held.map CourseRecord.tag)) (hlen : q.held.length ≤ 65536)
    (tag : Word) : q.isDuplicate tag = true ↔ tag ∈ q.held.map CourseRecord.tag := by
  unfold Queue.isDuplicate
  cases hn : q.newest with
  | none =>
    rw [Queue.newest_eq, List.getLast?_eq_none_iff] at hn
    simp [hn]
  | some r =>
    have last : (q.held.map CourseRecord.tag).getLast? = some r.tag := by
      rw [List.getLast?_map, ← Queue.newest_eq, hn]
      rfl
    rw [mem_consecutive h last (by simpa using hlen), List.length_map]
    simp

/-! ### The checks at hand-over and at completion (R53, R78 to R83) -/

theorem QueueInv.isDuplicate {s : State} (h : QueueInv s) (tag : Word) :
    s.queue.isDuplicate tag = true ↔ tag ∈ s.queue.held.map CourseRecord.tag := by
  obtain ⟨history, pending, -, tags, -⟩ := h
  refine Queue.isDuplicate_iff tags ?_ tag
  have current : s.queue.current.toList.length ≤ 1 := by cases s.queue.current <;> simp
  simp only [Queue.held, List.length_append]
  omega

/-- Checks 4 to 6 (R81 to R83). -/
theorem QueueInv.tagChecks_eq {s : State} (h : QueueInv s) (tag : Word) :
    tagChecks s.queue tag
      = if tag ∈ s.queue.held.map CourseRecord.tag then some .duplicate
        else if s.queue.expected ≠ some tag then some .gap
        else if s.queue.pending.length = 16 then some .full
        else none := by
  have full : pendingMax ≤ s.queue.pending.length ↔ s.queue.pending.length = 16 := by
    obtain ⟨-, pending, -⟩ := h
    unfold pendingMax
    omega
  unfold tagChecks
  simp only [h.isDuplicate, full]

theorem bankOf_none {b : Byte} : (bankOf b).isNone = true ↔ b ≠ 0 ∧ b ≠ 1 := by
  by_cases h0 : b = 0
  · simp [bankOf, h0]
  · by_cases h1 : b = 1
    · simp [bankOf, h1]
    · rw [bankOf, if_neg h0, if_neg h1]
      exact ⟨fun _ => ⟨h0, h1⟩, fun _ => rfl⟩

theorem malformed_iff (f : CourseFrame) :
    malformed f = true ↔ 8 < f.overrides.length ∨ (f.bank ≠ 0 ∧ f.bank ≠ 1) := by
  rw [malformed, Bool.or_eq_true, decide_eq_true_iff, bankOf_none]

/-- Settles O35: each check in its order, with the held tags for the distance of R81. -/
theorem acceptanceChecks : Obligations.AcceptanceChecks := by
  intro s h
  refine ⟨fun f => ?_, fun tag => ?_⟩
  · simp only [handOverCheck, h.tagChecks_eq, malformed_iff, Option.isSome_iff_ne_none]
  · simp only [completionCheck, h.tagChecks_eq, Option.isSome_iff_ne_none]

/-! ### The completion of an expansion (R49, R50, R53, R84) -/

section
variable {s : State} {j : Expansion}

/-- An expansion completes while no course frame waits: the verdict, the append and the frame sent. -/
theorem exec_expansionComplete_alone (hj : s.expander.job = some j) (ht : j.todo = []) (hw : s.ring.waiting = []) :
    exec .expansionComplete s = .next (s.afterExpansion j) := by
  rw [exec_expansionComplete hj ht, State.releaseWaiting_idle (Or.inl ((s.afterExpansion_waits j).1.trans hw))]

theorem completionVerdict_accepted (hc : completionCheck s j.frame.tag = none) (he : j.ecc = false) :
    completionVerdict s j = .accepted := by
  simp [completionVerdict, hc, he]

theorem completionVerdict_refused {v : Verdict} (h : completionCheck s j.frame.tag = some v
    ∨ (completionCheck s j.frame.tag = none ∧ j.ecc = true ∧ v = .ecc)) : completionVerdict s j = v := by
  rcases h with hc | ⟨hc, he, rfl⟩
  · simp [completionVerdict, hc]
  · simp [completionVerdict, hc, he]

/-- No check's verdict is ACCEPTED. -/
theorem completionCheck_ne_accepted {tag : Word} {v : Verdict} (h : completionCheck s tag = some v) : v ≠ .accepted := by
  unfold completionCheck tagChecks at h
  rintro rfl
  repeat' split at h
  all_goals cases h

/-- An expansion that ends with a verdict other than ACCEPTED leaves the queue and the fault records. -/
theorem State.afterExpansion_refused {v : Verdict} (hv : completionVerdict s j = v) (hne : v ≠ .accepted) :
    s.afterExpansion j = State.answerCourse { s with expander := { s.expander with job := none } } j.ticket j.frame v := by
  have verdict : completionVerdict { s with expander := { s.expander with job := none } } j = v := hv
  rw [State.afterExpansion, verdict, State.takeCandidate, if_neg hne]

/-- An expansion that ends ACCEPTED appends its candidate against the newest record held. -/
theorem State.afterExpansion_accepted {prev : CourseRecord} (hv : completionVerdict s j = .accepted)
    (hn : s.queue.newest = some prev) :
    s.afterExpansion j = (appendRecord { s with expander := { s.expander with job := none } } j.record prev).answerCourse
      j.ticket j.frame .accepted := by
  have verdict : completionVerdict { s with expander := { s.expander with job := none } } j = .accepted := hv
  have newest : ({ s with expander := { s.expander with job := none } } : State).queue.newest = some prev := hn
  rw [State.afterExpansion, verdict, State.takeCandidate, if_pos rfl, newest, Option.getD_some]

end

theorem planDistances_clamped (p prev : BarPlan) : (planDistances p prev).clamped = p.clamped := by
  unfold planDistances
  split <;> rfl

theorem fillStand_clamped (p prev : BarPlan) : (fillStand p prev).clamped = p.clamped := by
  unfold fillStand
  split <;> rfl

/-- The planned record keeps which plans were clamped (R50, R98). -/
theorem planRecord_filledFrom_clamped (s : State) (r prev : CourseRecord) (n : BarIx) :
    (planRecord s (filledFrom r prev) prev).plans[n].clamped = r.plans[n].clamped := by
  have planned : (planRecord s (filledFrom r prev) prev).plans[n]
      = planDistances (fillStand r.plans[n] prev.plans[n]) prev.plans[n] := by simp [planRecord, filledFrom]
  rw [planned, planDistances_clamped, fillStand_clamped]

/-- The fault record of one bar after an append's LIMIT reports (R50, R167). -/
theorem reportLimits_bar (s : State) (r : CourseRecord) (n : BarIx) :
    (reportLimits s r).faults.bars[n]
      = if r.plans[n].clamped then s.barRecord n .limit (some r.tag) s.tracker.angle else s.faults.bars[n] := by
  rw [State.barRecord_eq]
  simp [reportLimits]

/-- Settles O38: ACCEPTED appends the candidate filled and planned, every other verdict leaves the queue. -/
theorem expansionCompletes : Obligations.ExpansionCompletes := by
  intro s j hj ht hw
  have run := exec_expansionComplete_alone hj ht hw
  refine ⟨fun prev hc he hn => ?_, fun v hv => ?_⟩
  · rw [run, State.afterExpansion_accepted (completionVerdict_accepted hc he) hn]
    refine ⟨_, filledFrom j.record prev, rfl, rfl, rfl, rfl, rfl, rfl, fun n => ?_, fun n => ?_, rfl, rfl⟩
    · have plan : (filledFrom j.record prev).plans[n] = fillStand j.plans[n] prev.plans[n] := by
        simp [filledFrom, Expansion.record]
      rw [plan, fillStand]
    · rw [State.answerCourse_faults, appendRecord_eq, reportLimits_bar, planRecord_filledFrom_clamped]
      rfl
  · have hne : v ≠ .accepted := by
      rcases hv with hc | ⟨-, -, rfl⟩
      · exact completionCheck_ne_accepted hc
      · nofun
    rw [run, State.afterExpansion_refused (completionVerdict_refused hv) hne]
    rfl

end Sys2Proof.Machine


-- ==== Bar parameters set (O47) ====
namespace Sys2Proof.Machine

/-! ### The parameters' own rules (R41, R57, R109 to R111, R121, R156) -/

theorem quarterOf_none {v : Word} (h : 4 ≤ v.toNat) : quarterOf v = none := dif_neg (by omega)

theorem quarterOf_eq {v : Word} {l : Fin 4} (h : v.toNat = l.val) : quarterOf v = some l := by
  have lt : v.toNat < 4 := by omega
  rw [quarterOf, dif_pos lt]
  exact congrArg some (Fin.ext h)

theorem modeOf_none {v : Word} (h : 3 ≤ v.toNat) : modeOf v = none := by
  have h0 : v ≠ 0 := by rintro rfl; exact absurd h (by decide)
  have h1 : v ≠ 1 := by rintro rfl; exact absurd h (by decide)
  have h2 : v ≠ 2 := by rintro rfl; exact absurd h (by decide)
  rw [modeOf, if_neg h0, if_neg h1, if_neg h2]

theorem modeOf_number {v : Word} {m : Mode} (h : v.toNat = modeNumber m) : modeOf v = some m := by
  obtain rfl : v = BitVec.ofNat 16 (modeNumber m) := by rw [← h]; simp
  cases m <;> rfl

theorem modeOf_some {v : Word} (h : v.toNat ≤ 2) : ∃ m, modeOf v = some m := by
  have cases : v.toNat = modeNumber .parked ∨ v.toNat = modeNumber .jog ∨ v.toNat = modeNumber .motion := by
    simp only [modeNumber]
    omega
  rcases cases with h | h | h <;> exact ⟨_, modeOf_number h⟩

theorem polarityOf_none {v : Word} (h : 2 ≤ v.toNat) : polarityOf v = none := by
  have h0 : v ≠ 0 := by rintro rfl; exact absurd h (by decide)
  have h1 : v ≠ 1 := by rintro rfl; exact absurd h (by decide)
  rw [polarityOf, if_neg h0, if_neg h1]

theorem polarityOf_eq {v : Word} (h : v.toNat ≤ 1) :
    polarityOf v = some (if v = 0 then .activeLow else .activeHigh) := by
  unfold polarityOf
  split
  · rfl
  · next h0 =>
    have h1 : v = 1 := by bv_omega
    rw [if_pos h1]

theorem trimOf_eq {v : Word} (h1 : -64 ≤ v.toInt) (h2 : v.toInt ≤ 63) : trimOf v = some v.toInt := if_pos ⟨h1, h2⟩

theorem trimOf_none {v : Word} (h : v.toInt < -64 ∨ 63 < v.toInt) : trimOf v = none := if_neg (by omega)

theorem Bar.enterMode_same (b : Bar) : b.enterMode b.mode = b := by
  unfold Bar.enterMode
  exact if_pos rfl

/-! A bar number above 15 is refused RANGE by every bar parameter (R181). -/

section
variable {bar : Byte} (h : barOf bar = none) (v : Word) (s : State)
include h

theorem opSetMode_noBar : opSetMode bar v s = (s, .only .range) := by rw [opSetMode, h]; rfl
theorem opSetClass_noBar : opSetClass bar v s = (s, .only .range) := by rw [opSetClass, h]; rfl
theorem opSetLapSet_noBar : opSetLapSet bar v s = (s, .only .range) := by rw [opSetLapSet, h]; rfl
theorem opSetTravelLimit_noBar : opSetTravelLimit bar v s = (s, .only .range) := by rw [opSetTravelLimit, h]; rfl
theorem opSetTrim_noBar : opSetTrim bar v s = (s, .only .range) := by rw [opSetTrim, h]; rfl
theorem opSetHomePosition_noBar : opSetHomePosition bar v s = (s, .only .range) := by rw [opSetHomePosition, h]; rfl
theorem opSetHomePolarity_noBar : opSetHomePolarity bar v s = (s, .only .range) := by rw [opSetHomePolarity, h]; rfl

end

section
variable {bar : Byte} {n : BarIx} {v : Word} {s : State}

theorem opSetMode_done (hb : barOf bar = some n) {m : Mode} (hm : modeOf v = some m) (off : s.node.state = .offline)
    (still : s.bars[n].motion = .still) : opSetMode bar v s = (s.setBar n (s.bars[n].enterMode m), .only .done) := by
  have free : s.bars[n].busy = false := Bar.not_busy.mpr still
  simp [-Fin.getElem_fin, opSetMode, hb, hm, off, free, State.reply]

theorem opSetMode_state (hb : barOf bar = some n) (hv : v.toNat ≤ 2) (on : s.node.state ≠ .offline) :
    opSetMode bar v s = (s, .only .state) := by
  obtain ⟨m, hm⟩ := modeOf_some hv
  simp [opSetMode, hb, hm, on, State.reply]

theorem opSetMode_busy (hb : barOf bar = some n) (hv : v.toNat ≤ 2) (off : s.node.state = .offline)
    (moves : s.bars[n].motion ≠ .still) : opSetMode bar v s = (s, .only .busy) := by
  obtain ⟨m, hm⟩ := modeOf_some hv
  have busy : s.bars[n].busy = true := by
    rw [← Bool.not_eq_false, Bar.not_busy]
    exact moves
  simp [-Fin.getElem_fin, opSetMode, hb, hm, off, busy, State.reply]

theorem opSetMode_range (hv : 3 ≤ v.toNat) : opSetMode bar v s = (s, .only .range) := by
  cases hb : barOf bar <;> simp [opSetMode, hb, modeOf_none hv, State.reply]

theorem opSetLapSet_done (hb : barOf bar = some n) {l : Fin 4} (hl : quarterOf v = some l) (off : s.node.state = .offline) :
    opSetLapSet bar v s = (s.setBar n { s.bars[n] with lapSet := l }, .only .done) := by
  simp [opSetLapSet, hb, hl, off, State.reply]

theorem opSetLapSet_state (hb : barOf bar = some n) (hv : v.toNat ≤ 3) (on : s.node.state ≠ .offline) :
    opSetLapSet bar v s = (s, .only .state) := by
  have hl : quarterOf v = some ⟨v.toNat, by omega⟩ := quarterOf_eq rfl
  simp [opSetLapSet, hb, hl, on, State.reply]

theorem opSetLapSet_range (hv : 4 ≤ v.toNat) : opSetLapSet bar v s = (s, .only .range) := by
  cases hb : barOf bar <;> simp [opSetLapSet, hb, quarterOf_none hv, State.reply]

theorem opSetTrim_done (hb : barOf bar = some n) {t : Int} (ht : trimOf v = some t) :
    opSetTrim bar v s = (s.setBar n { s.bars[n] with
      pendingTrim := t, activeTrim := if s.node.state = .offline then t else s.bars[n].activeTrim }, .only .done) := by
  simp [opSetTrim, hb, ht, State.reply]

theorem opSetTrim_range (hv : trimOf v = none) : opSetTrim bar v s = (s, .only .range) := by
  cases hb : barOf bar <;> simp [opSetTrim, hb, hv, State.reply]

theorem opSetHomePosition_done (hb : barOf bar = some n) (hv : v.toNat ≤ 4032) :
    opSetHomePosition bar v s = (s.setBar n { s.bars[n] with homePos := v.toNat }, .only .done) := by
  simp [opSetHomePosition, hb, inRange_of_le (Nat.zero_le _) hv, State.reply]

theorem opSetHomePosition_range (hv : 4032 < v.toNat) : opSetHomePosition bar v s = (s, .only .range) := by
  cases hb : barOf bar <;> simp [opSetHomePosition, hb, inRange_none.mpr (Or.inr hv), State.reply]

theorem opSetHomePolarity_done (hb : barOf bar = some n) {p : Polarity} (hp : polarityOf v = some p) :
    opSetHomePolarity bar v s = (s.setBar n { s.bars[n] with homePol := p }, .only .done) := by
  simp [opSetHomePolarity, hb, hp, State.reply]

theorem opSetHomePolarity_range (hv : 2 ≤ v.toNat) : opSetHomePolarity bar v s = (s, .only .range) := by
  cases hb : barOf bar <;> simp [opSetHomePolarity, hb, polarityOf_none hv, State.reply]

end

/-! ### The obligation -/

/-- Settles O47: each parameter's own rule, in the state with the request entered at the ring port. -/
theorem barParametersSet : Obligations.BarParametersSet := by
  intro s env index v h hdata
  have sets : ∀ (i : Instr) (op : ServiceOp), i.request = some (op, env) → i.homesSeen s.homes = s.homes →
      (∀ start count, op ≠ .read start count) → ∀ (n : BarIx) (b : Bar),
      immediateOp op [] { s with ring := s.requestEntered op env }
        = (State.setBar { s with ring := s.requestEntered op env } n b, .only .done) →
      exec i s = .next ((s.answered op env (.only .done)).setBar n b) := fun i op hi hh hop n b hown =>
    exec_answered_own i op hi h hh hop (State.setBar { s with ring := s.requestEntered op env } n b) (.only .done)
      (by rw [hdata]; exact hown)
  have refuses : ∀ (i : Instr) (op : ServiceOp), i.request = some (op, env) → i.homesSeen s.homes = s.homes →
      (∀ start count, op ≠ .read start count) → ∀ r,
      immediateOp op [] { s with ring := s.requestEntered op env } = ({ s with ring := s.requestEntered op env }, .only r) →
      exec i s = .next (s.answered op env (.only r)) := fun i op hi hh hop r hown =>
    exec_answered_same i op hi h hh hop (.only r) (by rw [hdata]; exact hown)
  refine ⟨fun n hn => ?_, fun hi => ?_⟩
  · have hb : barOf index = some n := barOf_some.mpr hn
    refine ⟨fun off still => ?_, fun hv on => ?_, fun hv off moves => ?_, fun hv => ?_, fun l hl off => ?_, fun hv on => ?_,
      fun hv => ?_, fun hv => ?_, fun hv => ?_, fun h1 h2 => ?_, fun hv => ?_, fun hv => ?_, fun hv => ?_⟩
    · have enters : ∀ m, v.toNat = modeNumber m → exec (.setMode env index v) s
          = .next ((s.answered (.setMode index v) env (.only .done)).setBar n (s.bars[n].enterMode m)) := fun m hm =>
        sets _ (.setMode index v) rfl rfl nofun n _ (opSetMode_done hb (modeOf_number hm) off still)
      refine ⟨?_, ?_, ?_, fun hm => ?_⟩
      · rintro rfl other
        rw [enters .parked rfl, Bar.enterMode, if_neg (Ne.symm other)]
      · rintro rfl other
        rw [enters .jog rfl, Bar.enterMode, if_neg (Ne.symm other)]
      · rintro rfl other
        rw [enters .motion rfl, Bar.enterMode, if_neg (Ne.symm other)]
      · rw [enters _ hm, Bar.enterMode_same]
    · exact refuses _ (.setMode index v) rfl rfl nofun _ (opSetMode_state hb hv on)
    · exact refuses _ (.setMode index v) rfl rfl nofun _ (opSetMode_busy hb hv off moves)
    · exact refuses _ (.setMode index v) rfl rfl nofun _ (opSetMode_range hv)
    · exact sets _ (.setLapSet index v) rfl rfl nofun n _ (opSetLapSet_done hb (quarterOf_eq hl) off)
    · exact refuses _ (.setLapSet index v) rfl rfl nofun _ (opSetLapSet_state hb hv on)
    · exact refuses _ (.setLapSet index v) rfl rfl nofun _ (opSetLapSet_range hv)
    · exact refuses _ (.setHomePosition index v) rfl rfl nofun _ (opSetHomePosition_range hv)
    · exact refuses _ (.setHomePolarity index v) rfl rfl nofun _ (opSetHomePolarity_range hv)
    · exact sets _ (.setTrim index v) rfl rfl nofun n _ (opSetTrim_done hb (trimOf_eq h1 h2))
    · exact refuses _ (.setTrim index v) rfl rfl nofun _ (opSetTrim_range (trimOf_none hv))
    · exact sets _ (.setHomePosition index v) rfl rfl nofun n _ (opSetHomePosition_done hb hv)
    · exact sets _ (.setHomePolarity index v) rfl rfl nofun n _ (opSetHomePolarity_done hb (polarityOf_eq hv))
  · have none : barOf index = none := barOf_none.mpr hi
    exact ⟨refuses _ (.setMode index v) rfl rfl nofun _ (opSetMode_noBar none v _),
      refuses _ (.setClass index v) rfl rfl nofun _ (opSetClass_noBar none v _),
      refuses _ (.setLapSet index v) rfl rfl nofun _ (opSetLapSet_noBar none v _),
      refuses _ (.setTravelLimit index v) rfl rfl nofun _ (opSetTravelLimit_noBar none v _),
      refuses _ (.setTrim index v) rfl rfl nofun _ (opSetTrim_noBar none v _),
      refuses _ (.setHomePosition index v) rfl rfl nofun _ (opSetHomePosition_noBar none v _),
      refuses _ (.setHomePolarity index v) rfl rfl nofun _ (opSetHomePolarity_noBar none v _)⟩

end Sys2Proof.Machine


-- ==== The drive classes and the commit in flight (O58) ====
namespace Sys2Proof.Machine

/-! ### One class (R56, R58, R59, R63) -/

theorem DriveClass.outdated_eq (k : DriveClass) :
    k.outdated = { k with state := if k.state = .valid then .stale else k.state } := by
  unfold DriveClass.outdated
  split <;> rfl

theorem DriveClass.outdated_not_valid (k : DriveClass) : k.outdated.state ≠ .valid := by
  rw [DriveClass.outdated_eq]
  dsimp only
  split
  · nofun
  · assumption

theorem DriveClass.outdated_not_computing {k : DriveClass} (h : k.state ≠ .computing) : k.outdated.state ≠ .computing := by
  rw [DriveClass.outdated_eq]
  dsimp only
  split
  · nofun
  · exact h

/-- An outdated class is VALID no longer, and else as it was. -/
theorem DriveClass.inv.outdated {k : DriveClass} (h : k.inv) : k.outdated.inv := by
  obtain ⟨spn4, spn64, length1, length32, ramp, -⟩ := h
  have valid := k.outdated_not_valid
  rw [DriveClass.outdated_eq] at valid ⊢
  exact ⟨spn4, spn64, length1, length32, ramp, fun hv => absurd hv valid⟩

/-- A class that is not VALID takes parameters in their ranges: no table has to agree with them. -/
theorem DriveClass.inv.setParameters {k : DriveClass} (h : k.inv) (hk : k.state ≠ .valid) {spn length : Nat}
    (hspn : 4 ≤ spn ∧ spn ≤ 64) (hlength : 1 ≤ length ∧ length ≤ 32) :
    { k with spn := spn, length := length }.inv := by
  obtain ⟨-, -, -, -, ramp, -⟩ := h
  exact ⟨hspn.1, hspn.2, hlength.1, hlength.2, ramp, fun hv => absurd hv hk⟩

/-! ### The commit and its class (R59, R65 to R69) -/

section
variable {j : Commit} {k : DriveClass}

/-- A clamped entry lies in the range of ramp periods (R59). -/
theorem clampEntry_rampPeriod (d : Word) : rampPeriod (clampEntry d.toNat) := by
  have := d.isLt
  unfold rampPeriod clampEntry
  omega

/-- A fetched entry joins the ramp, and with the last one the ramp has its length (R59, R66). -/
theorem Commit.inv.fetchedEntry (h : j.inv k) (hj : j.stage = .fetching) (d : Word) : (j.fetchedEntry d).inv k := by
  obtain ⟨state, prior, spn, length, agrees, periods, stage⟩ := h
  simp only [hj] at stage
  refine ⟨state, prior, spn, length, agrees, fun p hp => ?_, ?_⟩
  · rcases List.mem_append.mp hp with hp | hp
    · exact periods p hp
    · obtain rfl := List.mem_singleton.mp hp
      exact clampEntry_rampPeriod d
  · have fetched : (j.fetchedEntry d).fetched.length = j.fetched.length + 1 := by simp [Commit.fetchedEntry]
    have total : (j.fetchedEntry d).length = j.length := rfl
    rw [Commit.fetchedEntry_stage, fetched, total]
    split
    · next hs =>
      split at hs
      · cases hs
      · omega
    · next hs =>
      split at hs
      · omega
      · cases hs

/-- The passing of time within the computation stage leaves what was fetched (R67). -/
theorem Commit.inv.tick (h : j.inv k) : j.tick.inv k := by
  cases hj : j.stage with
  | fetching =>
    rw [Commit.tick_fetching hj]
    exact h
  | computing e =>
    obtain ⟨state, prior, spn, length, agrees, periods, stage⟩ := h
    simp only [hj] at stage
    rw [Commit.tick_computing hj]
    exact ⟨state, prior, spn, length, agrees, periods, stage⟩

/-- A commit that fails gives its class the state it had (R68). -/
theorem Commit.inv.failed (h : j.inv k) (hk : k.inv) : { k with state := j.prior, outcome := .eccFail }.inv := by
  obtain ⟨-, -, -, -, agrees, -⟩ := h
  obtain ⟨spn4, spn64, length1, length32, ramp, -⟩ := hk
  exact ⟨spn4, spn64, length1, length32, ramp, agrees⟩

/-- The swap makes the class agree with the ramp fetched in full (R63, R67). -/
theorem Commit.inv.swapped (h : j.inv k) (hk : k.inv) {e : Nat} (hj : j.stage = .computing e) : (k.swapped j).inv := by
  obtain ⟨-, -, spn, length, -, periods, stage⟩ := h
  obtain ⟨spn4, spn64, length1, length32, -⟩ := hk
  simp only [hj] at stage
  refine ⟨spn4, spn64, length1, length32, fun r hr => ?_, fun _ => ⟨j.fetched, rfl, ?_⟩⟩
  · obtain rfl : j.fetched = r := Option.some.inj hr
    exact ⟨by omega, by omega, periods⟩
  · show some (moveTable j.fetched j.spn) = some (moveTable j.fetched k.spn)
    rw [spn]

/-- A commit begins with the class's state and parameters, and no entry fetched (R65). -/
theorem DriveClass.inv.committing (hk : k.inv) (idle : k.state ≠ .computing) (c : ClassIx) :
    Commit.inv { cls := c, prior := k.state, spn := k.spn, length := k.length, fetched := [], raised := false,
                 stage := .fetching, shadow := [] } { k with state := .computing } := by
  obtain ⟨-, -, length1, -, -, agrees⟩ := hk
  exact ⟨rfl, idle, rfl, rfl, agrees, nofun, length1⟩

end

/-! ### The four classes together (R65, R69) -/

/-- The invariant of chapter 4, of the class engine alone. -/
def Engine.sound (e : Engine) : Prop :=
  (∀ c : ClassIx, e.classes[c].inv)
    ∧ (∀ c : ClassIx, e.classes[c].state = .computing → ∃ j, e.commit = some j ∧ j.cls = c)
    ∧ (∀ j, e.commit = some j → j.inv e.classes[j.cls])

theorem engineInv_iff (s : State) : EngineInv s ↔ s.engine.sound := Iff.rfl

theorem EngineInv.of_engine_eq {s t : State} (h : EngineInv s) (e : t.engine = s.engine) : EngineInv t := by
  rw [engineInv_iff, e]
  exact h

theorem Engine.initial_sound : Engine.initial.sound := by
  have initial : ∀ c : ClassIx, Engine.initial.classes[c] = DriveClass.initial := fun c => by simp [Engine.initial]
  refine ⟨fun c => ?_, fun c hc => ?_, nofun⟩
  · rw [initial]
    exact DriveClass.initial_inv
  · rw [initial] at hc
    cases hc

section
variable {e : Engine}

/-- A class that is not COMPUTING changes into another such class. -/
theorem Engine.sound.setClass (h : e.sound) {c : ClassIx} {k : DriveClass} (hk : k.inv)
    (before : e.classes[c].state ≠ .computing) (after : k.state ≠ .computing) : (e.setClass c k).sound := by
  obtain ⟨classes, owner, flight⟩ := h
  refine ⟨fun d => ?_, fun d hd => ?_, fun j hj => ?_⟩
  · rw [Engine.setClass_get]
    split
    · exact hk
    · exact classes d
  · rw [Engine.setClass_get] at hd
    split at hd
    · exact absurd hd after
    · exact owner d hd
  · have other : j.cls ≠ c := by
      rintro rfl
      exact before (flight j hj).1
    rw [Engine.setClass_get, if_neg other]
    exact flight j hj

/-- The commit in flight goes on with its class. -/
theorem Engine.sound.setCommit (h : e.sound) {j j' : Commit} (hj : e.commit = some j) (cls : j'.cls = j.cls)
    (inv : j'.inv e.classes[j.cls]) : Engine.sound { e with commit := some j' } := by
  obtain ⟨classes, owner, -⟩ := h
  refine ⟨classes, fun c hc => ?_, fun i hi => ?_⟩
  · obtain ⟨i, hi, rfl⟩ := owner c hc
    obtain rfl : j = i := Option.some.inj (hj.symm.trans hi)
    exact ⟨j', rfl, cls⟩
  · obtain rfl : j' = i := Option.some.inj hi
    have there : ∀ c, c = j.cls → j'.inv e.classes[c] := by
      rintro _ rfl
      exact inv
    exact there _ cls

/-- The commit in flight ends, and its class, the one COMPUTING, is that no longer. -/
theorem Engine.sound.endCommit (h : e.sound) {j : Commit} (hj : e.commit = some j) {k : DriveClass} (hk : k.inv)
    (after : k.state ≠ .computing) : Engine.sound { e.setClass j.cls k with commit := none } := by
  obtain ⟨classes, owner, -⟩ := h
  have get := e.setClass_get j.cls k
  refine ⟨fun d => ?_, fun d hd => ?_, nofun⟩
  · show (e.setClass j.cls k).classes[d].inv
    rw [get]
    split
    · exact hk
    · exact classes d
  · change (e.setClass j.cls k).classes[d].state = .computing at hd
    rw [get] at hd
    split at hd
    · exact absurd hd after
    · next other =>
      obtain ⟨i, hi, rfl⟩ := owner d hd
      obtain rfl : j = i := Option.some.inj (hj.symm.trans hi)
      exact absurd rfl other

/-- With no commit in flight no class is COMPUTING, and a commit can begin (R65). -/
theorem Engine.sound.committing (h : e.sound) (free : e.commit = none) (c : ClassIx) : (e.committing c).sound := by
  obtain ⟨classes, owner, -⟩ := h
  have idle : ∀ d : ClassIx, e.classes[d].state ≠ .computing := fun d hd => by
    obtain ⟨j, hj, -⟩ := owner d hd
    cases free.symm.trans hj
  have get : ∀ d : ClassIx, (e.committing c).classes[d]
      = if d = c then { e.classes[c] with state := .computing } else e.classes[d] := e.setClass_get c _
  refine ⟨fun d => ?_, fun d hd => ?_, fun j hj => ?_⟩
  · rw [get]
    split
    · obtain ⟨spn4, spn64, length1, length32, ramp, -⟩ := classes c
      exact ⟨spn4, spn64, length1, length32, ramp, nofun⟩
    · exact classes d
  · rw [get] at hd
    split at hd
    · next hc => exact ⟨_, rfl, hc.symm⟩
    · exact absurd hd (idle d)
  · obtain rfl := Option.some.inj hj
    rw [get, if_pos rfl]
    exact (classes c).committing (idle c) c

/-- A LOAD's write outdates the class of its ramp word; a COMPUTING class is never VALID (R58). -/
theorem Engine.sound.toldOfWrite (h : e.sound) (addr : Nat) : (e.toldOfWrite addr).sound := by
  unfold Engine.toldOfWrite
  split
  · exact h
  · next c _ =>
    by_cases hc : e.classes[c].state = .computing
    · have kept : e.classes[c].outdated = e.classes[c] := if_neg (by rw [hc]; nofun)
      have same : e.setClass c e.classes[c].outdated = e := by
        rw [kept]
        simp [Engine.setClass]
      rw [same]
      exact h
    · have ⟨classes, _, _⟩ := h
      exact h.setClass (classes c).outdated hc (DriveClass.outdated_not_computing hc)

theorem Engine.sound.commitFailed (h : e.sound) {j : Commit} (hj : e.commit = some j) : (e.commitFailed j).sound := by
  have ⟨classes, _, flight⟩ := h
  have ⟨_, prior, _⟩ := flight j hj
  exact h.endCommit hj ((flight j hj).failed (classes j.cls)) prior

theorem Engine.sound.swapped (h : e.sound) {j : Commit} (hj : e.commit = some j) {k : Nat} (hs : j.stage = .computing k) :
    (e.swapped j).sound := by
  have ⟨classes, _, flight⟩ := h
  exact h.endCommit hj ((flight j hj).swapped (classes j.cls) hs) nofun

theorem Engine.sound.tick (h : e.sound) : Engine.sound { e with commit := e.commit.map Commit.tick } := by
  cases hj : e.commit with
  | none =>
    have same : { e with commit := none } = e := by rw [← hj]
    rw [Option.map_none, same]
    exact h
  | some j =>
    have cls : j.tick.cls = j.cls := by
      unfold Commit.tick
      split <;> rfl
    have ⟨_, _, flight⟩ := h
    exact h.setCommit hj cls (flight j hj).tick

end

end Sys2Proof.Machine


-- ==== Every step keeps the drive classes (O58) ====
namespace Sys2Proof.Machine

/-! ### What the ring brings -/

section
variable {P : State → Prop} (ring : ∀ s r, P s → P { s with ring := r }) (take : ∀ s d, P s → P (s.takeRequest d))
include ring take

/-- A property that ring-port changes and every request taken keep is kept by every request taken or held. -/
theorem State.takeOrDefer_keeps {s : State} (h : P s) (d : Deferred) : P (s.takeOrDefer d) := by
  unfold State.takeOrDefer
  split
  · exact ring _ _ h
  · exact take _ _ h

/-- The same of every clean service frame, this node's request or another's. -/
theorem State.serviceFrame_keeps {s : State} (h : P s) (f : ServiceFrame) : P (s.serviceFrame f) := by
  unfold State.serviceFrame
  split
  · exact h
  · split
    · unfold State.serviceRequest
      split
      · exact h
      · exact State.takeOrDefer_keeps ring take (ring _ _ h) _
    · exact ring s _ h

/-- The same of every corrupt frame, which reaches the node as a READ at most (R179). -/
theorem State.corrupt_keeps {s : State} (h : P s) (j : Judgement) (cs : List Byte) : P (s.corrupt j cs) := by
  unfold State.corrupt State.corruptAddressed
  dsimp only
  split
  · split
    · split
      · exact State.takeOrDefer_keeps ring take (ring _ _ h) _
      · exact ring s _ h
    · exact ring s _ h
    · split <;> exact ring s _ h
  · exact ring s _ h

/-- The same of the characters of any frame, where every course frame keeps the property too. -/
theorem State.receive_keeps (course : ∀ s f, P s → P (s.courseFrame f)) {s : State} (h : P s) (chars : List RxChar) :
    P (s.receive chars) := by
  unfold State.receive
  split
  · exact h
  · split
    · exact h
    · exact course _ _ h
    · exact State.serviceFrame_keeps ring take h _
    · exact State.corrupt_keeps ring take h _ _

end

@[simp] theorem State.courseFrame_engine (s : State) (f : CourseFrame) : (s.courseFrame f).engine = s.engine := by
  unfold State.courseFrame
  split
  · rfl
  · dsimp only
    split
    · rfl
    · exact State.handOver_engine _ _ _

/-! ### What a service operation does to the classes -/

/-- The service operations whose own rule reaches the class engine (R56, R65). -/
def reachesEngine : ServiceOp → Bool
  | .setStepsPerNeedle .. | .setRampLength .. | .commitClass _ => true
  | _ => false

/-- Every other operation leaves the classes and the commit. -/
theorem immediateOp_engine {op : ServiceOp} (hop : reachesEngine op = false) (data : List Word) (s : State) :
    (immediateOp op data s).1.engine = s.engine := by
  have rf : ∀ {r : State × Reply}, refusedBy s r → r.1.engine = s.engine := fun hr => by rw [hr.1]
  unfold immediateOp
  split
  · rfl
  · rename_i hcount
    clear hcount
    cases op <;> dsimp only
    case setStepsPerNeedle | setRampLength | commitClass => cases hop
    case load => rcases opLoad_cases _ _ data s with e | ⟨-, e⟩; exact rf e; rw [e]; simp
    case getParam => rcases opGetParam_cases _ _ s with e | ⟨_, -, e⟩; exact rf e; rw [e]
    case setRowCount bank v => rcases opSetRowCount_cases bank v s with e | ⟨_, -, e⟩; exact rf e; rw [e]; cases bank <;> rfl
    case setMargin v => rcases opSetMargin_cases v s with e | ⟨_, -, e⟩; exact rf e; rw [e]
    case setStandstillTimeout v => rcases opSetStandstillTimeout_cases v s with e | ⟨_, -, e⟩; exact rf e; rw [e]
    case setWindow w v => rcases opSetWindow_cases w v s with e | ⟨_, -, -, e⟩; exact rf e; rw [e]
    case setGuardEnable v => rcases opSetGuardEnable_cases v s with e | ⟨-, e⟩ | ⟨-, -, e⟩; exact rf e; all_goals rw [e]
    case setDiagnosticCheckMode v =>
      rcases opSetDiagMode_cases v s with e | ⟨-, -, e⟩ | ⟨-, e⟩; exact rf e; all_goals rw [e]
    case setDiagnosticCheckValue v => rcases opSetDiagValue_cases v s with e | ⟨_, -, e⟩; exact rf e; rw [e]
    case setMode b v => rcases opSetMode_cases b v s with e | ⟨_, _, -, -, -, -, e⟩; exact rf e; rw [e]; rfl
    case setClass b v => rcases opSetClass_cases b v s with e | ⟨_, _, -, -, -, -, -, e⟩; exact rf e; rw [e]; rfl
    case setLapSet b v => rcases opSetLapSet_cases b v s with e | ⟨_, _, -, -, -, e⟩; exact rf e; rw [e]; rfl
    case setTravelLimit b v => rcases opSetTravelLimit_cases b v s with e | ⟨_, _, -, -, -, -, -, e⟩; exact rf e; rw [e]; rfl
    case setTrim b v => rcases opSetTrim_cases b v s with e | ⟨_, _, -, -, e⟩; exact rf e; rw [e]; rfl
    case setHomePosition b v => rcases opSetHomePosition_cases b v s with e | ⟨_, _, -, -, e⟩; exact rf e; rw [e]; rfl
    case setHomePolarity b v => rcases opSetHomePolarity_cases b v s with e | ⟨_, _, -, -, e⟩; exact rf e; rw [e]; rfl
    case arm tag => rcases opArm_cases tag s with e | ⟨-, -, -, -, e⟩; exact rf e; rw [e]; rfl
    case resume => rcases opResume_cases s with e | ⟨-, -, -, e⟩; exact rf e; rw [e, State.beginCatchup_eq]; simp
    case restart => rcases opRestart_cases s with e | ⟨-, -, e⟩; exact rf e; rw [e]; rfl
    case jog b v =>
      rcases opJog_cases b v s with e | ⟨_, _, _, -, -, -, -, -, e⟩
      · exact rf e
      · rw [e]
        unfold jogReferenced jogUnreferenced
        dsimp only
        repeat' split
        all_goals rfl
    case reference b => rcases opReference_cases b s with e | ⟨_, -, -, -, -, e⟩; exact rf e; rw [e]; rfl
    case getStatus => rw [opGetStatus_state]
    case getFaults => rw [opGetFaults_state]
    case clearFault t b =>
      rcases opClearFault_cases t b s with e | ⟨-, e⟩ | ⟨_, -, -, e⟩ | ⟨-, e⟩ | ⟨-, e⟩; exact rf e; all_goals rw [e]
    all_goals rfl

/-- A class's parameter may be set in OFFLINE, with the class not COMPUTING and none of its bars MOVING or SEARCHING (R56). -/
theorem classRefusal_none {s : State} {c : ClassIx} : classRefusal s c = none
    ↔ s.node.state = .offline ∧ s.engine.classes[c].state ≠ .computing ∧ classBusy s c = false := by
  unfold classRefusal
  by_cases off : s.node.state = .offline
  · by_cases idle : s.engine.classes[c].state = .computing
    · rw [if_neg (not_not.mpr off), if_pos idle]
      simp [-Fin.getElem_fin, idle]
    · rw [if_neg (not_not.mpr off), if_neg idle]
      cases classBusy s c <;> simp [-Fin.getElem_fin, off, idle]
  · rw [if_pos off]
    simp [off]

section
variable {s : State} (h : EngineInv s)
include h

/-- An operation refused keeps the invariant. -/
theorem EngineInv.refused {r : State × Reply} (hr : refusedBy s r) : EngineInv r.1 := by
  rw [hr.1]
  exact h

/-- A class that a parameter may be set in changes into another that is not COMPUTING. -/
theorem EngineInv.setClass {c : ClassIx} (free : classRefusal s c = none) {k : DriveClass} (hk : k.inv)
    (state : k.state = s.engine.classes[c].outdated.state) : EngineInv { s with engine := s.engine.setClass c k } := by
  obtain ⟨-, idle, -⟩ := classRefusal_none.mp free
  refine Engine.sound.setClass h hk idle ?_
  rw [state]
  exact DriveClass.outdated_not_computing idle

theorem opSetSpn_engineInv (cls : Byte) (v : Word) : EngineInv (opSetSpn cls v s).1 := by
  rcases opSetSpn_cases cls v s with e | ⟨c, n, -, hn, free, -, e⟩
  · exact h.refused e
  · obtain ⟨lo, hi, rfl⟩ := inRange_some.mp hn
    have ⟨classes, _, _⟩ := h
    have outdated := (classes c).outdated
    have ⟨_, _, length1, length32, _⟩ := outdated
    rw [e]
    exact h.setClass free (outdated.setParameters (DriveClass.outdated_not_valid _) ⟨lo, hi⟩ ⟨length1, length32⟩) rfl

theorem opSetRampLength_engineInv (cls : Byte) (v : Word) : EngineInv (opSetRampLength cls v s).1 := by
  rcases opSetRampLength_cases cls v s with e | ⟨c, n, -, hn, free, e⟩
  · exact h.refused e
  · obtain ⟨lo, hi, rfl⟩ := inRange_some.mp hn
    have ⟨classes, _, _⟩ := h
    have outdated := (classes c).outdated
    have ⟨spn4, spn64, _⟩ := outdated
    rw [e]
    exact h.setClass free (outdated.setParameters (DriveClass.outdated_not_valid _) ⟨spn4, spn64⟩ ⟨lo, hi⟩) rfl

theorem opCommitClass_engineInv (cls : Byte) : EngineInv (opCommitClass cls s).1 := by
  rcases opCommitClass_cases cls s with e | ⟨c, -, -, free, -, e⟩
  · exact h.refused e
  · have begun : (s.beginCommit c).engine = s.engine.committing c := by
      unfold State.beginCommit
      dsimp only
      rw [State.present_engine]
      rfl
    rw [e, engineInv_iff, begun]
    exact Engine.sound.committing h free c

end

theorem immediateOp_engineInv (op : ServiceOp) (data : List Word) (s : State) (h : EngineInv s) :
    EngineInv (immediateOp op data s).1 := by
  by_cases hd : takesNoData op = true ∧ data ≠ []
  · rw [immediateOp_withData hd.1 hd.2]
    exact h
  have none : takesNoData op = true → data = [] := fun hop => by simpa [hop] using hd
  cases op with
  | setStepsPerNeedle c v =>
    rw [none rfl, immediateOp_setStepsPerNeedle]
    exact opSetSpn_engineInv h c v
  | setRampLength c v =>
    rw [none rfl, immediateOp_setRampLength]
    exact opSetRampLength_engineInv h c v
  | commitClass c =>
    rw [none rfl, immediateOp_commitClass]
    exact opCommitClass_engineInv h c
  | _ => exact h.of_engine_eq (immediateOp_engine rfl data s)

@[simp] theorem State.beginRead_engine (s : State) (start : BitVec 24) (count : Byte) (d : Deferred) :
    (s.beginRead start count d).engine = s.engine := by
  simp [State.beginRead]

theorem State.takeRequest_engineInv (s : State) (d : Deferred) (h : EngineInv s) : EngineInv (s.takeRequest d) :=
  State.takeRequest_keeps (fun _ _ h => h) immediateOp_engineInv
    (fun s a c d h => h.of_engine_eq (s.beginRead_engine a c d)) h d

/-! ### Every command -/

/-- A ramp word fetched takes the commit on, or ends it (R59, R66, R68). -/
theorem State.deliverEngine_engineInv {s : State} (h : EngineInv s) (o : ReadOutcome) : EngineInv (s.deliverEngine o) := by
  cases hj : s.engine.commit with
  | none =>
    simp only [State.deliverEngine, hj]
    exact h
  | some j =>
    cases hs : j.stage with
    | computing e =>
      simp only [State.deliverEngine, hj, hs]
      exact h
    | fetching =>
      by_cases ho : o.severity = some .uncorrectable
      · rw [State.deliverEngine_failed hj hs ho]
        exact Engine.sound.commitFailed h hj
      · rw [State.deliverEngine_taken hj hs ho]
        have ⟨_, _, flight⟩ := h
        exact Engine.sound.setCommit h hj rfl ((flight j hj).fetchedEntry hs o.data)

theorem State.deliver_engineInv {s : State} (h : EngineInv s) (c : Client) (o : ReadOutcome) : EngineInv (s.deliver c o) := by
  cases c with
  | expander => exact h.of_engine_eq (s.deliverExpander_engine o)
  | service => exact h.of_engine_eq (s.deliverRead_engine o)
  | engine => exact State.deliverEngine_engineInv h o

/-- A word access outdates the class of a ramp word it writes, takes the commit on, or ends it (R25, R58, R66, R68). -/
theorem State.finishAccess_engineInv {s : State} (h : EngineInv s) (a : Access) : EngineInv (s.finishAccess a) := by
  unfold State.finishAccess
  split
  · dsimp only
    split
    · exact h
    · refine EngineInv.of_engine_eq ?_ (State.releaseWaiting_engine _)
      exact Engine.sound.toldOfWrite h a.addr
  · split
    · exact h
    · refine State.deliver_engineInv ?_ _ _
      exact h

theorem execWordAccessComplete_engineInv {s t : State} (h : EngineInv s) (ht : execWordAccessComplete s = .next t) :
    EngineInv t := by
  unfold execWordAccessComplete at ht
  split at ht
  · cases ht
    exact h
  · next a _ =>
    split at ht <;> cases ht
    refine EngineInv.of_engine_eq ?_ (State.grant_engine _)
    exact State.finishAccess_engineInv (s := { s with store := { s.store with access := none } }) h a

@[simp] theorem State.rePlan_engine (s : State) : s.rePlan.engine = s.engine := by
  unfold State.rePlan
  split <;> rfl

theorem execCommitSwap_engineInv {s t : State} (h : EngineInv s) (ht : execCommitSwap s = .next t) : EngineInv t := by
  unfold execCommitSwap at ht
  split at ht
  · cases ht
    exact h
  · next j hj =>
    split at ht <;> cases ht
    · exact h
    · next k hs =>
      refine EngineInv.of_engine_eq ?_ (State.rePlan_engine _)
      exact Engine.sound.swapped h hj hs

/-- The passing of time, the shaft, the bars, the course frames and the ring's status leave the classes and the commit. -/
theorem exec_event_engine {i : Instr} (hi : (∃ a b level, i = .increment a b level) ∨ i = .indexMissing ∨ i = .standstillExpiry
      ∨ i = .storeClearDone ∨ i = .expansionComplete ∨ (∃ n, i = .stepPulse n) ∨ (∃ n, i = .stepPulseEnd n)
      ∨ (∃ n, i = .moveComplete n) ∨ (∃ n homes, i = .searchSample n homes) ∨ i = .ringBreak ∨ i = .ringSilence)
    {s t : State} (ht : exec i s = .next t) : t.engine = s.engine := by
  have settled : s.settleIndex.engine = s.engine := by
    unfold State.settleIndex
    split
    · exact s.indexMissing_engine
    · rfl
  rcases hi with ⟨a, b, level, rfl⟩ | rfl | rfl | rfl | rfl | ⟨n, rfl⟩ | ⟨n, rfl⟩ | ⟨n, rfl⟩ | ⟨n, homes, rfl⟩ | rfl | rfl
  · have taken : ∀ forward, ((s.settleIndex.adoptLevels a b).takeIncrement forward level).engine = s.engine := fun forward => by
      obtain ⟨-, -, engine, -⟩ := (s.settleIndex.adoptLevels a b).takeIncrement_frame forward level
      exact engine.trans settled
    cases ht
    split
    · rfl
    · split
      · rfl
      · rfl
      · exact taken true
      · exact taken false
  · cases ht
    exact settled
  · cases ht
    split <;> rfl
  · cases ht
    split
    · rw [State.grant_engine]
    · rfl
  · change execExpansionComplete s = .next t at ht
    unfold execExpansionComplete at ht
    split at ht
    · cases ht
      rfl
    · split at ht <;> cases ht
      · simp
      · rfl
  · change execStepPulse n s = .next t at ht
    unfold execStepPulse at ht
    split at ht <;> cases ht
    · split <;> rfl
    · rfl
    · rfl
  · cases ht
    rfl
  · change execMoveComplete n s = .next t at ht
    unfold execMoveComplete at ht
    split at ht <;> cases ht
    · split <;> simp
    · rfl
    · rfl
  · change execSearchSample n homes s = .next t at ht
    unfold execSearchSample at ht
    dsimp only at ht
    split at ht <;> cases ht
    · simp
    · rfl
    · rfl
  all_goals
    cases ht
    split <;> rfl

theorem execDeferredServiceOp_engineInv {s t : State} (h : EngineInv s) (homes : BitVec 16)
    (ht : execDeferredServiceOp homes s = .next t) : EngineInv t := by
  unfold execDeferredServiceOp at ht
  dsimp only at ht
  split at ht
  · cases ht
    exact h
  · cases ht
    split
    · exact h
    · exact State.takeRequest_engineInv _ _ h

theorem exec_engineInv {i : Instr} {s t : State} (h : EngineInv s) (ht : exec i s = .next t) : EngineInv t := by
  have service : ∀ op env, i.request = some (op, env) → EngineInv t := fun op env hreq => by
    rw [exec_request hreq] at ht
    cases ht
    exact State.serviceRequest_keeps (P := EngineInv) (fun _ _ h => h) immediateOp_engineInv
      (fun s a c d h => h.of_engine_eq (s.beginRead_engine a c d)) (s := { s with homes := i.homesSeen s.homes }) h op env
  have course : ∀ (s : State) f, EngineInv s → EngineInv (s.courseFrame f) := fun s f h =>
    h.of_engine_eq (s.courseFrame_engine f)
  cases i
  case powerOn | pinReset => cases ht; exact Engine.initial_sound
  case resetEnd => cases ht; exact h
  case wordAccessComplete => exact execWordAccessComplete_engineInv h ht
  case commitSwap => exact execCommitSwap_engineInv h ht
  case courseFrame f => cases ht; exact course s f h
  case corruptFrame =>
    cases ht
    exact State.receive_keeps (fun _ _ h => h) State.takeRequest_engineInv course h _
  case serviceFramePass =>
    cases ht
    exact State.serviceFrame_keeps (fun _ _ h => h) State.takeRequest_engineInv h _
  case deferredServiceOp homes => exact execDeferredServiceOp_engineInv h homes ht
  case increment | indexMissing | standstillExpiry | storeClearDone | expansionComplete | stepPulse | stepPulseEnd
      | moveComplete | searchSample | ringBreak | ringSilence => exact h.of_engine_eq (exec_event_engine (by simp) ht)
  all_goals exact service _ _ rfl

/-- One count takes the computation stage on, and leaves the classes (R67). -/
theorem State.idle_engineInv {s : State} (h : EngineInv s) : EngineInv s.idle := by
  have queued : ∀ {u : State} es, EngineInv u → EngineInv (u.queueDue es) := fun es hu => by
    unfold State.queueDue
    split <;> exact hu
  unfold State.idle
  dsimp only
  split
  · exact queued _ (Engine.sound.tick h)
  · exact queued _ h

/-- Settles O58: each operation of the class engine keeps its invariant, and no other command reaches the engine. -/
theorem stepKeepsEngineInv : Obligations.StepKeepsEngineInv := by
  intro s t h ht
  unfold step at ht
  split at ht
  · refine exec_engineInv ?_ ht
    exact h
  · cases ht
    exact State.idle_engineInv h

end Sys2Proof.Machine


-- ==== The move time (O30) ====
namespace Sys2Proof.Machine

section
variable (ramp : List Nat)

/-! ### The period that follows a pulse (R60, R61) -/

/-- Both profiles in one: pulse k is followed by the period of the smallest of its place from the start, its place from the
end, and the ramp's length. -/
theorem periodAfter_eq {steps k : Nat} (h1 : 1 ≤ k) (h2 : k ≤ steps) :
    periodAfter ramp steps k = rampEntry ramp (min (min k ramp.length) (steps - k + 1)) := by
  unfold periodAfter
  dsimp only
  split
  · split
    · congr 1
      omega
    · split <;> congr 1 <;> omega
  · split <;> congr 1 <;> omega

/-! ### Pulses along the ramp and on at its last period -/

/-- The time of a number of pulses up the ramp, and from its end on at its last period. -/
def upTime (n : Nat) : Nat := (ramp.take n).sum + (n - ramp.length) * rampEntry ramp ramp.length

theorem upTime_zero : upTime ramp 0 = 0 := by simp [upTime]

theorem upTime_succ (n : Nat) : upTime ramp (n + 1) = upTime ramp n + rampEntry ramp (min (n + 1) ramp.length) := by
  unfold upTime
  by_cases h : n < ramp.length
  · have entry : rampEntry ramp (n + 1) = ramp[n] := by simp [rampEntry, h]
    rw [List.sum_take_succ _ _ h, Nat.min_eq_left h, entry, Nat.sub_eq_zero_of_le h, Nat.sub_eq_zero_of_le h.le]
    omega
  · have past : ramp.length ≤ n := Nat.not_lt.mp h
    rw [List.take_of_length_le past, List.take_of_length_le (Nat.le_succ_of_le past),
      Nat.min_eq_right (Nat.le_succ_of_le past), Nat.sub_add_comm past, Nat.succ_mul]
    omega

theorem upTime_mono : Monotone (upTime ramp) := monotone_nat_of_le_succ fun n => by
  rw [upTime_succ]
  exact Nat.le_add_right _ _

theorem upTime_eq_sum (n : Nat) : upTime ramp n = ∑ k ∈ Finset.range n, rampEntry ramp (min (k + 1) ramp.length) := by
  induction n with
  | zero => exact upTime_zero ramp
  | succ n ih => rw [upTime_succ, Finset.sum_range_succ, ih]

/-! ### The move time (R60 to R62) -/

/-- A move is two runs up, the second taken backwards: the rounded-up half of its pulses and the rounded-down half. -/
theorem moveTime_eq_upTime (steps : Nat) :
    moveTime ramp steps = upTime ramp ((steps + 1) / 2) + upTime ramp (steps / 2) := by
  unfold moveTime upTime
  dsimp only
  split
  · next long =>
    have rest : steps - 2 * ramp.length = ((steps + 1) / 2 - ramp.length) + (steps / 2 - ramp.length) := by omega
    rw [List.take_of_length_le (by omega), List.take_of_length_le (by omega), rest, Nat.add_mul]
    omega
  · next short =>
    rw [Nat.sub_eq_zero_of_le (show (steps + 1) / 2 ≤ ramp.length by omega),
      Nat.sub_eq_zero_of_le (show steps / 2 ≤ ramp.length by omega), Nat.zero_mul]
    omega

theorem moveTime_mono : Monotone (moveTime ramp) := fun a b h => by
  rw [moveTime_eq_upTime, moveTime_eq_upTime]
  exact Nat.add_le_add (upTime_mono ramp (by omega)) (upTime_mono ramp (by omega))

theorem moveTime_eq_sum (steps : Nat) :
    moveTime ramp steps = ((List.range steps).map fun k => periodAfter ramp steps (k + 1)).sum := by
  have halves : (steps + 1) / 2 + steps / 2 = steps := by omega
  have joined := Finset.sum_range_add (fun k => periodAfter ramp steps (k + 1)) ((steps + 1) / 2) (steps / 2)
  rw [halves] at joined
  have up : ∀ k ∈ Finset.range ((steps + 1) / 2),
      rampEntry ramp (min (k + 1) ramp.length) = periodAfter ramp steps (k + 1) := fun k hk => by
    have := Finset.mem_range.mp hk
    rw [periodAfter_eq ramp (by omega) (by omega)]
    congr 1
    omega
  have down : ∀ k ∈ Finset.range (steps / 2), rampEntry ramp (min (steps / 2 - 1 - k + 1) ramp.length)
      = periodAfter ramp steps ((steps + 1) / 2 + k + 1) := fun k hk => by
    have := Finset.mem_range.mp hk
    rw [periodAfter_eq ramp (by omega) (by omega)]
    congr 1
    omega
  calc moveTime ramp steps
      = upTime ramp ((steps + 1) / 2) + upTime ramp (steps / 2) := moveTime_eq_upTime ramp steps
    _ = ∑ k ∈ Finset.range ((steps + 1) / 2), periodAfter ramp steps (k + 1)
        + ∑ k ∈ Finset.range (steps / 2), periodAfter ramp steps ((steps + 1) / 2 + k + 1) := by
      rw [upTime_eq_sum, upTime_eq_sum, ← Finset.sum_range_reflect _ (steps / 2), Finset.sum_congr rfl up,
        Finset.sum_congr rfl down]
    _ = ∑ k ∈ Finset.range steps, periodAfter ramp steps (k + 1) := joined.symm
    _ = ((List.range steps).map fun k => periodAfter ramp steps (k + 1)).sum := rfl

end

/-- Settles O30: the period of each pulse by its places from both ends, and the time of a move as two runs along the ramp. -/
theorem moveTimeIsItsPeriods : Obligations.MoveTimeIsItsPeriods := by
  intro ramp _
  refine ⟨?_, moveTime_eq_sum ramp, fun steps => moveTime_mono ramp (Nat.le_succ steps),
    fun steps k _ h1 h2 => periodAfter_eq ramp h1 h2, fun steps k short h1 h2 => ?_, fun steps long => if_pos long⟩
  · simp [moveTime_eq_upTime, upTime_zero]
  · rw [periodAfter_eq ramp h1 h2, rampEntry]
    congr 2
    omega

end Sys2Proof.Machine


-- ==== The swap of a commit (O34) ====
namespace Sys2Proof.Machine

/-! ### The pending records planned again (R104) -/

theorem planAll_length (s : State) (prev : CourseRecord) (rs : List CourseRecord) : (planAll s prev rs).length = rs.length := by
  induction rs generalizing prev with
  | nil => rfl
  | cons r rest ih => exact congrArg (· + 1) (ih _)

theorem planAll_tags (s : State) (prev : CourseRecord) (rs : List CourseRecord) :
    (planAll s prev rs).map CourseRecord.tag = rs.map CourseRecord.tag := by
  induction rs generalizing prev with
  | nil => rfl
  | cons r rest ih => exact congrArg (r.tag :: ·) (ih _)

/-- Each record is planned against the one before it, as planned. -/
theorem planAll_get (s : State) {before : CourseRecord} {rs : List CourseRecord} {i : Nat} {r prev : CourseRecord}
    (hr : rs[i]? = some r) (hprev : (before :: planAll s before rs)[i]? = some prev) :
    (planAll s before rs)[i]? = some (planRecord s r prev) := by
  induction rs generalizing before i with
  | nil => cases hr
  | cons a rest ih =>
    cases i with
    | zero =>
      obtain rfl : a = r := Option.some.inj hr
      obtain rfl : before = prev := Option.some.inj hprev
      rfl
    | succ i => exact ih hr hprev

theorem State.rePlan_none {s : State} (h : s.queue.beforePending = none) : s.rePlan = s := by
  rw [State.rePlan, h]

theorem State.rePlan_some {s : State} {before : CourseRecord} (h : s.queue.beforePending = some before) :
    s.rePlan = { s with queue := { s.queue with pending := planAll s before s.queue.pending } } := by
  rw [State.rePlan, h]

theorem Queue.beforePending_some {q : Queue} {before : CourseRecord} :
    q.beforePending = some before
      ↔ q.current = some before ∨ (q.current = none ∧ q.history.getLast? = some before) := by
  unfold Queue.beforePending
  cases q.current <;> simp

/-! ### The obligation -/

theorem exec_commitSwap {s : State} {j : Commit} {k : Nat} (hj : s.engine.commit = some j) (hs : j.stage = .computing k) :
    exec .commitSwap s = .next (State.rePlan { s with engine := s.engine.swapped j }) := by
  show execCommitSwap s = _
  simp only [execCommitSwap, hj, hs]

/-- Settles O34: the class by the rule of the swap, and the pending records by the rule of each planning. -/
theorem commitSwapped : Obligations.CommitSwapped := by
  intro s j k hj hs
  refine ⟨_, exec_commitSwap hj hs, by rw [State.rePlan_engine]; rfl, ?_⟩
  cases hb : s.queue.beforePending with
  | none =>
    rw [State.rePlan_none (s := { s with engine := s.engine.swapped j }) hb]
    refine ⟨rfl, rfl, rfl, fun before h => ?_⟩
    cases hb.symm.trans (Queue.beforePending_some.mpr h)
  | some before =>
    rw [State.rePlan_some (s := { s with engine := s.engine.swapped j }) hb]
    refine ⟨rfl, planAll_length _ _ _, planAll_tags _ _ _, fun other h i r prev hr hprev => ?_⟩
    obtain rfl : before = other := Option.some.inj (hb.symm.trans (Queue.beforePending_some.mpr h))
    exact planAll_get _ hr hprev

end Sys2Proof.Machine


-- ==== Class and travel parameters set (O46) ====
namespace Sys2Proof.Machine

/-! ### Bars of a class (R56) -/

theorem anyBar_true {bars : Vector Bar 16} {p : Bar → Bool} : anyBar bars p = true ↔ ∃ n : BarIx, p bars[n] = true := by
  simp [-Fin.getElem_fin, anyBar]

theorem Bar.busy_iff {b : Bar} : b.busy = true ↔ b.motion ≠ .still := by
  rw [← Bool.not_eq_false, Bar.not_busy]

theorem classBusy_iff {s : State} {c : ClassIx} :
    classBusy s c = true ↔ ∃ n : BarIx, s.bars[n].cls = c ∧ s.bars[n].motion ≠ .still := by
  simp [-Fin.getElem_fin, classBusy, anyBar_true, Bar.busy_iff]

theorem spnTooLow_iff {s : State} {c : ClassIx} {spn : Nat} : spnTooLow s c spn = true
    ↔ ∃ n : BarIx, s.bars[n].cls = c ∧ s.bars[n].referenced = true ∧ s.bars[n].limit * spn < s.bars[n].pos := by
  simp [-Fin.getElem_fin, spnTooLow, anyBar_true, and_assoc]

theorem classRefusal_free {s : State} {c : ClassIx} (off : s.node.state = .offline)
    (idle : s.engine.classes[c].state ≠ .computing) (still : ∀ n : BarIx, s.bars[n].cls = c → s.bars[n].motion = .still) :
    classRefusal s c = none := by
  refine classRefusal_none.mpr ⟨off, idle, Bool.eq_false_iff.mpr fun busy => ?_⟩
  obtain ⟨n, hn, moves⟩ := classBusy_iff.mp busy
  exact moves (still n hn)

theorem classRefusal_state {s : State} (on : s.node.state ≠ .offline) (c : ClassIx) : classRefusal s c = some .state :=
  if_pos on

theorem classRefusal_busy {s : State} {c : ClassIx} (off : s.node.state = .offline)
    (busy : s.engine.classes[c].state = .computing ∨ ∃ n : BarIx, s.bars[n].cls = c ∧ s.bars[n].motion ≠ .still) :
    classRefusal s c = some .busy := by
  rw [classRefusal, if_neg (not_not.mpr off)]
  split
  · rfl
  · next idle => exact if_pos (classBusy_iff.mpr (busy.resolve_left idle))

/-! ### The parameters' own rules (R56, R57, R111) -/

section
variable {index : Byte} {v : Word} {s : State}

theorem opSetSpn_done {c : ClassIx} (hc : classIxOf index = some c) (h1 : 4 ≤ v.toNat) (h2 : v.toNat ≤ 64)
    (free : classRefusal s c = none)
    (fits : ∀ n : BarIx, s.bars[n].cls = c → s.bars[n].referenced = true → s.bars[n].pos ≤ s.bars[n].limit * v.toNat) :
    opSetSpn index v s
      = ({ s with engine := s.engine.setClass c { s.engine.classes[c].outdated with spn := v.toNat } }, .only .done) := by
  have low : spnTooLow s c v.toNat = false := Bool.eq_false_iff.mpr fun low => by
    obtain ⟨n, hn, hr, hlt⟩ := spnTooLow_iff.mp low
    exact Nat.not_lt.mpr (fits n hn hr) hlt
  simp [-Fin.getElem_fin, opSetSpn, hc, inRange_of_le h1 h2, free, low, State.reply]

theorem opSetSpn_tooLow {c : ClassIx} (hc : classIxOf index = some c) (h1 : 4 ≤ v.toNat) (h2 : v.toNat ≤ 64)
    (free : classRefusal s c = none) (low : ∃ n : BarIx, s.bars[n].cls = c ∧ s.bars[n].referenced = true
      ∧ s.bars[n].limit * v.toNat < s.bars[n].pos) : opSetSpn index v s = (s, .only .range) := by
  simp [opSetSpn, hc, inRange_of_le h1 h2, free, spnTooLow_iff.mpr low, State.reply]

theorem opSetSpn_refused {c : ClassIx} (hc : classIxOf index = some c) (h1 : 4 ≤ v.toNat) (h2 : v.toNat ≤ 64) {r : Result}
    (refused : classRefusal s c = some r) : opSetSpn index v s = (s, .only r) := by
  simp [opSetSpn, hc, inRange_of_le h1 h2, refused, State.reply]

theorem opSetSpn_range (h : 4 ≤ index.toNat ∨ v.toNat < 4 ∨ 64 < v.toNat) : opSetSpn index v s = (s, .only .range) := by
  unfold opSetSpn
  rcases h with h | h
  · rw [classIxOf_none.mpr h]
    rfl
  · rw [inRange_none.mpr h]
    cases classIxOf index <;> rfl

theorem opSetRampLength_done {c : ClassIx} (hc : classIxOf index = some c) (h1 : 1 ≤ v.toNat) (h2 : v.toNat ≤ 32)
    (free : classRefusal s c = none) : opSetRampLength index v s
      = ({ s with engine := s.engine.setClass c { s.engine.classes[c].outdated with length := v.toNat } }, .only .done) := by
  simp [-Fin.getElem_fin, opSetRampLength, hc, inRange_of_le h1 h2, free, State.reply]

theorem opSetRampLength_refused {c : ClassIx} (hc : classIxOf index = some c) (h1 : 1 ≤ v.toNat) (h2 : v.toNat ≤ 32)
    {r : Result} (refused : classRefusal s c = some r) : opSetRampLength index v s = (s, .only r) := by
  simp [opSetRampLength, hc, inRange_of_le h1 h2, refused, State.reply]

theorem opSetRampLength_range (h : 4 ≤ index.toNat ∨ v.toNat < 1 ∨ 32 < v.toNat) :
    opSetRampLength index v s = (s, .only .range) := by
  unfold opSetRampLength
  rcases h with h | h
  · rw [classIxOf_none.mpr h]
    rfl
  · rw [inRange_none.mpr h]
    cases classIxOf index <;> rfl

section
variable {n : BarIx} (hb : barOf index = some n)
include hb

theorem opSetClass_done {c : ClassIx} (hc : quarterOf v = some c) (off : s.node.state = .offline)
    (still : s.bars[n].motion = .still)
    (fits : ¬(s.bars[n].referenced = true ∧ s.bars[n].limit * s.engine.classes[c].spn < s.bars[n].pos)) :
    opSetClass index v s = (s.setBar n { s.bars[n] with cls := c }, .only .done) := by
  simp only [opSetClass, hb, hc, off, Bar.not_busy.mpr still, if_neg fits]
  rfl

theorem opSetClass_tooFar {c : ClassIx} (hc : quarterOf v = some c) (off : s.node.state = .offline)
    (still : s.bars[n].motion = .still)
    (far : s.bars[n].referenced = true ∧ s.bars[n].limit * s.engine.classes[c].spn < s.bars[n].pos) :
    opSetClass index v s = (s, .only .range) := by
  simp only [opSetClass, hb, hc, off, Bar.not_busy.mpr still, if_pos far]
  rfl

theorem opSetClass_state (hv : v.toNat ≤ 3) (on : s.node.state ≠ .offline) : opSetClass index v s = (s, .only .state) := by
  have hc : quarterOf v = some ⟨v.toNat, by omega⟩ := quarterOf_eq rfl
  simp only [opSetClass, hb, hc, if_pos on]
  rfl

theorem opSetClass_busy (hv : v.toNat ≤ 3) (off : s.node.state = .offline) (moves : s.bars[n].motion ≠ .still) :
    opSetClass index v s = (s, .only .busy) := by
  have hc : quarterOf v = some ⟨v.toNat, by omega⟩ := quarterOf_eq rfl
  simp only [opSetClass, hb, hc, off, Bar.busy_iff.mpr moves]
  rfl

theorem opSetTravelLimit_done (hv : v.toNat ≤ 63) (off : s.node.state = .offline) (still : s.bars[n].motion = .still)
    (fits : ¬(s.bars[n].referenced = true ∧ v.toNat * (s.classOf s.bars[n]).spn < s.bars[n].pos)) :
    opSetTravelLimit index v s = (s.setBar n { s.bars[n] with limit := v.toNat }, .only .done) := by
  simp only [opSetTravelLimit, hb, inRange_of_le (Nat.zero_le _) hv, off, Bar.not_busy.mpr still, if_neg fits]
  rfl

theorem opSetTravelLimit_tooFar (hv : v.toNat ≤ 63) (off : s.node.state = .offline) (still : s.bars[n].motion = .still)
    (far : s.bars[n].referenced = true ∧ v.toNat * (s.classOf s.bars[n]).spn < s.bars[n].pos) :
    opSetTravelLimit index v s = (s, .only .range) := by
  simp only [opSetTravelLimit, hb, inRange_of_le (Nat.zero_le _) hv, off, Bar.not_busy.mpr still, if_pos far]
  rfl

theorem opSetTravelLimit_state (hv : v.toNat ≤ 63) (on : s.node.state ≠ .offline) :
    opSetTravelLimit index v s = (s, .only .state) := by
  simp only [opSetTravelLimit, hb, inRange_of_le (Nat.zero_le _) hv, if_pos on]
  rfl

theorem opSetTravelLimit_busy (hv : v.toNat ≤ 63) (off : s.node.state = .offline) (moves : s.bars[n].motion ≠ .still) :
    opSetTravelLimit index v s = (s, .only .busy) := by
  simp only [opSetTravelLimit, hb, inRange_of_le (Nat.zero_le _) hv, off, Bar.busy_iff.mpr moves]
  rfl

end

theorem opSetClass_range (h : 16 ≤ index.toNat ∨ 3 < v.toNat) : opSetClass index v s = (s, .only .range) := by
  rcases h with h | h
  · exact opSetClass_noBar (barOf_none.mpr h) v s
  · rw [opSetClass, quarterOf_none h]
    cases barOf index <;> rfl

theorem opSetTravelLimit_range (h : 16 ≤ index.toNat ∨ 63 < v.toNat) : opSetTravelLimit index v s = (s, .only .range) := by
  rcases h with h | h
  · exact opSetTravelLimit_noBar (barOf_none.mpr h) v s
  · rw [opSetTravelLimit, inRange_none.mpr (Or.inr h)]
    cases barOf index <;> rfl

end

/-! ### The obligation -/

/-- Settles O46: each parameter's own rule, in the state with the request entered at the ring port. -/
theorem classAndTravelSet : Obligations.ClassAndTravelSet := by
  intro s env index v h hdata
  have sets : ∀ (i : Instr) (op : ServiceOp), i.request = some (op, env) → i.homesSeen s.homes = s.homes →
      (∀ start count, op ≠ .read start count) → ∀ s' rep,
      immediateOp op [] { s with ring := s.requestEntered op env } = (s', rep) →
      exec i s = .next { s' with ring := s.ringAnswered op env rep } := fun i op hi hh hop s' rep hown =>
    exec_answered_own i op hi h hh hop s' rep (by rw [hdata]; exact hown)
  have refuses : ∀ (i : Instr) (op : ServiceOp), i.request = some (op, env) → i.homesSeen s.homes = s.homes →
      (∀ start count, op ≠ .read start count) → ∀ r,
      immediateOp op [] { s with ring := s.requestEntered op env } = ({ s with ring := s.requestEntered op env }, .only r) →
      exec i s = .next (s.answered op env (.only r)) := fun i op hi hh hop r hown =>
    exec_answered_same i op hi h hh hop (.only r) (by rw [hdata]; exact hown)
  refine ⟨fun c hi => ?_, fun hr => ?_, fun hr => ?_, fun hr => ?_, fun hr => ?_, fun n hn => ?_, fun n hn off still => ?_⟩
  · have hc : classIxOf index = some c := classIxOf_some.mpr hi
    refine ⟨fun h1 h2 off idle still => ?_, fun h1 h2 off idle still => ⟨fun fits => ?_, fun low => ?_⟩, fun h1 h2 on => ?_,
      fun h1 h2 off busy => ?_, fun h1 h2 on => ?_, fun h1 h2 off busy => ?_⟩
    · have own := sets (.setRampLength env index v) (.setRampLength index v) rfl rfl nofun _ _
        (opSetRampLength_done hc h1 h2 (classRefusal_free off idle still))
      rw [DriveClass.outdated_eq] at own
      exact own
    · have own := sets (.setStepsPerNeedle env index v) (.setStepsPerNeedle index v) rfl rfl nofun _ _
        (opSetSpn_done hc h1 h2 (classRefusal_free off idle still) fits)
      rw [DriveClass.outdated_eq] at own
      exact own
    · exact refuses _ (.setStepsPerNeedle index v) rfl rfl nofun _
        (opSetSpn_tooLow hc h1 h2 (classRefusal_free off idle still) low)
    · exact refuses _ (.setStepsPerNeedle index v) rfl rfl nofun _ (opSetSpn_refused hc h1 h2 (classRefusal_state on c))
    · exact refuses _ (.setStepsPerNeedle index v) rfl rfl nofun _ (opSetSpn_refused hc h1 h2 (classRefusal_busy off busy))
    · exact refuses _ (.setRampLength index v) rfl rfl nofun _ (opSetRampLength_refused hc h1 h2 (classRefusal_state on c))
    · exact refuses _ (.setRampLength index v) rfl rfl nofun _ (opSetRampLength_refused hc h1 h2 (classRefusal_busy off busy))
  · exact refuses _ (.setStepsPerNeedle index v) rfl rfl nofun _ (opSetSpn_range hr)
  · exact refuses _ (.setRampLength index v) rfl rfl nofun _ (opSetRampLength_range hr)
  · exact refuses _ (.setClass index v) rfl rfl nofun _ (opSetClass_range hr)
  · exact refuses _ (.setTravelLimit index v) rfl rfl nofun _ (opSetTravelLimit_range hr)
  · have hb : barOf index = some n := barOf_some.mpr hn
    refine ⟨fun on => ⟨fun hv => ?_, fun hv => ?_⟩, fun off moves => ⟨fun hv => ?_, fun hv => ?_⟩⟩
    · exact refuses _ (.setClass index v) rfl rfl nofun _ (opSetClass_state hb hv on)
    · exact refuses _ (.setTravelLimit index v) rfl rfl nofun _ (opSetTravelLimit_state hb hv on)
    · exact refuses _ (.setClass index v) rfl rfl nofun _ (opSetClass_busy hb hv off moves)
    · exact refuses _ (.setTravelLimit index v) rfl rfl nofun _ (opSetTravelLimit_busy hb hv off moves)
  · have hb : barOf index = some n := barOf_some.mpr hn
    have within : ∀ {limit : Nat}, s.bars[n].referenced = false ∨ s.bars[n].pos ≤ limit →
        ¬(s.bars[n].referenced = true ∧ limit < s.bars[n].pos) := fun fits far =>
      fits.elim (fun hu => Bool.eq_false_iff.mp hu far.1) (fun le => Nat.not_lt.mpr le far.2)
    refine ⟨fun c hc fits => ?_, fun c hc hr far => ?_, fun hv fits => ?_, fun hv hr far => ?_⟩
    · exact sets _ (.setClass index v) rfl rfl nofun _ _ (opSetClass_done hb (quarterOf_eq hc) off still (within fits))
    · exact refuses _ (.setClass index v) rfl rfl nofun _ (opSetClass_tooFar hb (quarterOf_eq hc) off still ⟨hr, far⟩)
    · exact sets _ (.setTravelLimit index v) rfl rfl nofun _ _ (opSetTravelLimit_done hb hv off still (within fits))
    · exact refuses _ (.setTravelLimit index v) rfl rfl nofun _ (opSetTravelLimit_tooFar hb hv off still ⟨hr, far⟩)

end Sys2Proof.Machine


-- ==== The course queue's places and tags (O57) ====
namespace Sys2Proof.Machine

/-! ### Tags in step (R75) -/

/-- Course tags that follow one another are a chain of the library's. -/
theorem consecutive_iff_isChain (tags : List Word) : consecutive tags ↔ tags.IsChain fun a b => b = a + 1 := by
  induction tags with
  | nil => exact iff_of_true trivial .nil
  | cons a rest ih =>
    cases rest with
    | nil => exact iff_of_true trivial (.singleton a)
    | cons b rest => rw [List.isChain_cons_cons, ← ih]; rfl

/-- The tags of the held sequence follow one another, and the expected tag follows the newest of them (R75). -/
def tagsInStep (tags : List Word) (expected : Option Word) : Prop :=
  consecutive tags ∧ expected = tags.getLast?.map (· + 1)

/-- The oldest tags may be dropped (R88). -/
theorem tagsInStep.suffix {tags later : List Word} {expected : Option Word} (h : tagsInStep tags expected)
    (hs : later <:+ tags) (hne : later ≠ []) : tagsInStep later expected := by
  obtain ⟨chain, next⟩ := h
  obtain ⟨older, rfl⟩ := hs
  rw [consecutive_iff_isChain] at chain
  refine ⟨(consecutive_iff_isChain _).mpr chain.right_of_append, ?_⟩
  rw [next, List.getLast?_append_of_ne_nil _ hne]

/-- A tag at the new end is the one expected before it, and the one above it is expected after it (R84, R91). -/
theorem tagsInStep_concat {tags : List Word} (hne : tags ≠ []) (tag : Word) (expected : Option Word) :
    tagsInStep (tags ++ [tag]) expected ↔ expected = some (tag + 1) ∧ tagsInStep tags (some tag) := by
  obtain ⟨newest, hn⟩ : ∃ newest, tags.getLast? = some newest := ⟨_, List.getLast?_eq_some_getLast hne⟩
  have chain : consecutive (tags ++ [tag]) ↔ consecutive tags ∧ tag = newest + 1 := by
    simp [consecutive_iff_isChain, List.isChain_append, hn]
  rw [tagsInStep, tagsInStep, chain, List.getLast?_concat, hn, Option.map_some, Option.map_some, Option.some_inj]
  tauto

/-! ### The three places (R74) -/

/-- The queue alone as R74 and R75 say, in a node state. -/
def Queue.sound (q : Queue) (st : NodeState) : Prop :=
  q.history.length ≤ 8 ∧ q.pending.length ≤ 16 ∧ placesFit st q ∧ tagsInStep (q.held.map CourseRecord.tag) q.expected

theorem queueInv_iff (s : State) : QueueInv s ↔ s.queue.sound s.node.state := by
  rw [QueueInv, Queue.sound, tagsInStep, Queue.newest_eq, List.getLast?_map, Option.map_map]
  rfl

/-- While the queue follows the shaft a record is current, and no more is asked of the places. -/
theorem placesFit_follows {st : NodeState} (h : st.follows) (q : Queue) : placesFit st q ↔ ∃ cur, q.current = some cur := by
  rcases h with rfl | rfl | rfl <;> exact Option.isSome_iff_exists

theorem NodeState.offline_armed_or_follows (st : NodeState) : st = .offline ∨ st = .armed ∨ st.follows := by
  cases st <;> simp [NodeState.follows]

section
variable {q : Queue} {st : NodeState}

/-- Once the queue follows the shaft it does not matter in which of the states it does. -/
theorem Queue.sound.follows (h : q.sound st) (hs : st.follows) {st' : NodeState} (hs' : st'.follows) : q.sound st' := by
  obtain ⟨history, pending, places, tags⟩ := h
  exact ⟨history, pending, (placesFit_follows hs' q).mpr ((placesFit_follows hs q).mp places), tags⟩

theorem Queue.initial_sound : Queue.initial.sound .offline :=
  ⟨Nat.zero_le _, Nat.zero_le _, ⟨rfl, rfl, rfl⟩, trivial, rfl⟩

/-- A step of the queue leaves the held sequence, or drops the oldest record of a full history (R74, R88). -/
theorem Queue.stepped_suffix {head : CourseRecord} {rest : List CourseRecord} (hp : q.pending = head :: rest) :
    (q.stepped head rest).held <:+ q.held := by
  cases hc : q.current with
  | none =>
    rw [Queue.stepped_first hc]
    simp [Queue.held, hc, hp]
  | some cur =>
    rw [Queue.stepped_current hc]
    simp only [Queue.held, hc, hp, Option.toList_some, List.append_assoc, List.singleton_append]
    split
    · exact List.suffix_append_self_iff.mpr (List.drop_suffix 1 q.history)
    · exact List.suffix_refl _

/-- A boundary that steps the queue, in every state in which a record may be pending (R74, R87, R88). -/
theorem Queue.sound.stepped (h : q.sound st) {head : CourseRecord} {rest : List CourseRecord}
    (hp : q.pending = head :: rest) {st' : NodeState} (hs : st'.follows) : (q.stepped head rest).sound st' := by
  obtain ⟨history, pending, -, tags⟩ := h
  have current : (q.stepped head rest).current = some head := rfl
  refine ⟨?_, ?_, (placesFit_follows hs _).mpr ⟨head, current⟩, tags.suffix ((Queue.stepped_suffix hp).map _) ?_⟩
  · rw [Queue.stepped_eq]
    dsimp only
    split
    · split <;> simp <;> omega
    · exact history
  · rw [hp, List.length_cons] at pending
    exact (Nat.le_succ _).trans pending
  · simp [Queue.held, current]

/-- A retrace puts the current record before the pending ones, and drops the tail of a full list, which is expected again
(R90, R91). -/
theorem Queue.sound.retraced (h : q.sound st) (hs : st.follows) {newest : CourseRecord}
    (hh : q.history.getLast? = some newest) : (q.retraced newest).sound st := by
  obtain ⟨history, pending, places, tags⟩ := h
  obtain ⟨cur, hc⟩ := (placesFit_follows hs q).mp places
  obtain ⟨older, hh⟩ := List.getLast?_eq_some_iff.mp hh
  have shorter : older.length ≤ 8 := by
    rw [hh, List.length_append] at history
    omega
  by_cases room : q.pending.length < 16
  · rw [Queue.retraced_room hh hc room]
    refine ⟨shorter, room, (placesFit_follows hs _).mpr ⟨newest, rfl⟩, ?_⟩
    simpa [Queue.held, hh, hc] using tags
  · have nonempty : q.pending ≠ [] := by
      rintro e
      simp [e] at room
    obtain ⟨keep, tail, hk⟩ := (List.eq_nil_or_concat q.pending).resolve_left nonempty
    rw [List.concat_eq_append] at hk
    rw [Queue.retraced_full hh hc hk (Nat.le_of_not_lt room)]
    refine ⟨shorter, ?_, (placesFit_follows hs _).mpr ⟨newest, rfl⟩, ?_⟩
    · simpa [hk] using pending
    · have whole : q.held = (older ++ newest :: cur :: keep) ++ [tail] := by simp [Queue.held, hh, hc, hk]
      rw [whole, List.map_append, List.map_singleton, tagsInStep_concat (by simp)] at tags
      simpa [Queue.held] using tags.2

/-- A record with the expected tag appended to a pending list with room (R83, R84). -/
theorem Queue.sound.appended (h : q.sound st) (hs : st ≠ .offline) {r : CourseRecord} (he : q.expected = some r.tag)
    (room : q.pending.length < 16) : (q.appended r).sound st := by
  obtain ⟨history, pending, places, tags⟩ := h
  have longer : (q.appended r).held.map CourseRecord.tag = q.held.map CourseRecord.tag ++ [r.tag] := by
    simp [Queue.held, Queue.appended]
  rw [he] at tags
  have nonempty : q.held.map CourseRecord.tag ≠ [] := fun e => by
    rw [e] at tags
    exact absurd tags.2 nofun
  refine ⟨history, by simpa [Queue.appended] using room, ?_, ?_⟩
  · rcases st.offline_armed_or_follows with rfl | rfl | follows
    · exact absurd rfl hs
    · exact places
    · exact (placesFit_follows follows _).mpr ((placesFit_follows follows q).mp places)
  · rw [longer, tagsInStep_concat nonempty]
    exact ⟨by simp [Queue.appended, he], tags⟩

/-- Pending records replaced by as many of the same tags (R104). -/
theorem Queue.sound.retagged (h : q.sound st) {rs : List CourseRecord}
    (same : rs.map CourseRecord.tag = q.pending.map CourseRecord.tag) : ({ q with pending := rs } : Queue).sound st := by
  obtain ⟨history, pending, places, tags⟩ := h
  have length : rs.length = q.pending.length := by simpa using congrArg List.length same
  refine ⟨history, length.trans_le pending, ?_, ?_⟩
  · cases st
    case offline =>
      obtain ⟨hh, hc, hp⟩ := places
      exact ⟨hh, hc, List.eq_nil_of_length_eq_zero (length.trans (by rw [hp]; rfl))⟩
    all_goals exact places
  · simpa [Queue.held, same] using tags

end

end Sys2Proof.Machine


-- ==== Every step keeps the course queue (O57) ====
namespace Sys2Proof.Machine

section
variable {s t : State}

/-- The invariant reads the queue and the node state. -/
theorem QueueInv.of_same (h : QueueInv s) (queue : t.queue = s.queue) (state : t.node.state = s.node.state) :
    QueueInv t := by
  rw [queueInv_iff, queue, state]
  exact (queueInv_iff s).mp h

/-- The node goes from one of RUNNING, HOLD and CATCHUP to another. -/
theorem QueueInv.setFollowing (h : QueueInv s) (before : s.node.state.follows) (queue : t.queue = s.queue)
    (after : t.node.state.follows) : QueueInv t := by
  rw [queueInv_iff, queue]
  exact ((queueInv_iff s).mp h).follows before after

/-! ### The shaft (R86 to R92, R135, R138) -/

theorem State.requestHold_queueInv (s : State) (d : Bool) (h : QueueInv s) : QueueInv (s.requestHold d) := by
  rcases s.node.state.offline_armed_or_follows with hs | hs | hs
  · exact h.of_same rfl (by rw [State.requestHold_node, Node.requestHold_idle d (Or.inl hs)])
  · exact h.of_same rfl (by rw [State.requestHold_node, Node.requestHold_idle d (Or.inr hs)])
  · exact h.setFollowing hs rfl (Or.inr (Or.inl (Node.requestHold_hold hs d)))

/-- A queue stepped in RUNNING, HOLD or CATCHUP, with the due check and the HOLD it may request (R87, R88, R106). -/
theorem State.stepQueue_queueInv {head : CourseRecord} {rest : List CourseRecord}
    (sound : (s.queue.stepped head rest).sound s.node.state) (t : Nat) : QueueInv (s.stepQueue t head rest) := by
  have stepped : QueueInv (s.queueStepped head rest) := (queueInv_iff _).mpr sound
  by_cases running : s.node.state = .running
  · rw [State.stepQueue_running running, State.makeDueCheck]
    dsimp only
    split
    · exact stepped
    · exact State.requestHold_queueInv _ false stepped
  · rw [State.stepQueue_held running]
    exact stepped

theorem State.forwardBoundary_queueInv (h : QueueInv s) (t : Nat) : QueueInv (s.forwardBoundary t) := by
  have sound := (queueInv_iff s).mp h
  rcases s.node.state.offline_armed_or_follows with hs | hs | hs
  · rw [State.forwardBoundary_offline hs]
    exact h
  · cases hp : s.queue.pending with
    | nil =>
      rw [State.forwardBoundary_armed_empty hs hp]
      exact h
    | cons head rest =>
      rw [State.forwardBoundary_armed hs hp]
      exact State.stepQueue_queueInv (s := { s with node := s.node.enter .running }) (sound.stepped hp (Or.inl rfl)) t
  · cases hp : s.queue.pending with
    | nil =>
      rw [State.forwardBoundary_dry hs hp]
      exact State.requestHold_queueInv _ true h
    | cons head rest =>
      rw [State.forwardBoundary_steps hs hp]
      exact State.stepQueue_queueInv (sound.stepped hp hs) t

theorem State.reverseBoundary_queueInv (h : QueueInv s) : QueueInv s.reverseBoundary := by
  rcases s.node.state.offline_armed_or_follows with hs | hs | hs
  · rw [State.reverseBoundary_idle (Or.inl hs)]
    exact h
  · rw [State.reverseBoundary_idle (Or.inr hs)]
    exact h
  · cases hh : s.queue.history.getLast? with
    | none =>
      rw [State.reverseBoundary_exhausted hs (List.getLast?_eq_none_iff.mp hh)]
      exact State.requestHold_queueInv _ true h
    | some newest =>
      obtain ⟨older, hl⟩ := List.getLast?_eq_some_iff.mp hh
      rw [State.reverseBoundary_retraces hs hl]
      exact (queueInv_iff _).mpr (((queueInv_iff s).mp h).retraced hs hh)

theorem State.boundary_queueInv (s : State) (forward : Bool) (t : Nat) (h : QueueInv s) :
    QueueInv (s.boundary forward t) := by
  cases forward
  · exact State.reverseBoundary_queueInv h
  · exact State.forwardBoundary_queueInv h t

theorem takeCrossing_queueInv (s : State) (c : Crossing) (h : QueueInv s) : QueueInv (takeCrossing s c) :=
  h.of_same (takeCrossing_queue s c) (congrArg Node.state (takeCrossing_node s c))

theorem State.takeIncrement_queueInv (h : QueueInv s) (forward level : Bool) : QueueInv (s.takeIncrement forward level) :=
  State.takeIncrement_keeps (fun _ _ h => h) (fun _ _ h => h) (fun s _ => s.requestHold_queueInv false)
    takeCrossing_queueInv State.requestHold_queueInv (fun s _ => s.requestHold_queueInv true) State.boundary_queueInv h
    forward level

theorem State.settleIndex_queueInv (h : QueueInv s) : QueueInv s.settleIndex :=
  (State.settleIndex_keeps (fun _ _ h => h) (fun _ _ _ h => h) State.requestHold_queueInv State.boundary_queueInv h).2

theorem execIncrement_queueInv (h : QueueInv s) (a b level : Bool) (ht : execIncrement a b level s = .next t) :
    QueueInv t := by
  have taken : ∀ forward, QueueInv ((s.settleIndex.adoptLevels a b).takeIncrement forward level) := fun forward =>
    State.takeIncrement_queueInv (s := s.settleIndex.adoptLevels a b) (State.settleIndex_queueInv h) forward level
  unfold execIncrement at ht
  cases ht
  split
  · exact h
  · split
    · exact h
    · exact h
    · exact taken true
    · exact taken false

/-! ### The ends of moves and searches (R116, R146, R159) -/

/-- The completion of a catch-up takes the node from CATCHUP to RUNNING (R146). -/
theorem State.evaluateCatchup_queueInv (h : QueueInv s) : QueueInv s.evaluateCatchup := by
  rcases s.evaluateCatchup_cases with e | ⟨catchup, -, e⟩
  · rw [e]
    exact h
  · rw [e]
    exact h.setFollowing (Or.inr (Or.inr catchup)) rfl (Or.inl rfl)

theorem execMoveComplete_queueInv (h : QueueInv s) (n : BarIx) (ht : execMoveComplete n s = .next t) : QueueInv t := by
  unfold execMoveComplete at ht
  split at ht <;> cases ht
  · split
    · exact h
    · refine State.evaluateCatchup_queueInv ?_
      exact h
  · exact h
  · exact h

theorem State.sampleSearch_queueInv (h : QueueInv s) (n : BarIx) (x : Search) : QueueInv (s.sampleSearch n x) := by
  have pulsed : QueueInv (if x.pulses < legLimit then s.setBar n (s.bars[n].legPulse x) else s.failSearch n) := by
    split <;> exact h
  unfold State.sampleSearch
  dsimp only
  split
  · split
    · exact h
    · exact pulsed
  · split
    · refine State.evaluateCatchup_queueInv ?_
      exact h
    · exact pulsed

theorem execSearchSample_queueInv (h : QueueInv s) (n : BarIx) (homes : BitVec 16)
    (ht : execSearchSample n homes s = .next t) : QueueInv t := by
  unfold execSearchSample at ht
  dsimp only at ht
  split at ht <;> cases ht
  · exact State.sampleSearch_queueInv (s := { s with homes := homes }) h n _
  · exact h
  · exact h

/-! ### The append and the swap (R53, R84, R104) -/

/-- The checks at an expansion's completion that pass: the node is not OFFLINE, the tag is the expected one, and the pending
list has room (R53, R78 to R83). -/
theorem completionCheck_none {tag : Word} (hc : completionCheck s tag = none) :
    s.node.state ≠ .offline ∧ s.queue.expected = some tag ∧ s.queue.pending.length < 16 := by
  unfold completionCheck tagChecks at hc
  split_ifs at hc with off busy held gap full
  exact ⟨off, not_not.mp gap, Nat.lt_of_not_le full⟩

theorem completionVerdict_accepts {j : Expansion} (hv : completionVerdict s j = .accepted) :
    completionCheck s j.frame.tag = none := by
  cases hc : completionCheck s j.frame.tag with
  | none => rfl
  | some v =>
    rw [completionVerdict, hc] at hv
    exact absurd hv (completionCheck_ne_accepted hc)

/-- A candidate with an ACCEPTED verdict is appended with the expected tag; any other leaves the queue (R53, R84). -/
theorem State.takeCandidate_queueInv (h : QueueInv s) (j : Expansion) :
    QueueInv (s.takeCandidate j (completionVerdict s j)) := by
  unfold State.takeCandidate
  split
  · next accepted =>
    obtain ⟨on, expected, room⟩ := completionCheck_none (completionVerdict_accepts accepted)
    rw [appendRecord_eq]
    exact (queueInv_iff _).mpr (((queueInv_iff s).mp h).appended on expected room)
  · exact h

theorem State.releaseWaiting_queueInv (h : QueueInv s) : QueueInv s.releaseWaiting :=
  h.of_same s.releaseWaiting_queue (congrArg Node.state s.releaseWaiting_node)

theorem execExpansionComplete_queueInv (h : QueueInv s) (ht : execExpansionComplete s = .next t) : QueueInv t := by
  unfold execExpansionComplete at ht
  split at ht
  · cases ht
    exact h
  · next j _ =>
    split at ht <;> cases ht
    · exact State.releaseWaiting_queueInv
        (State.takeCandidate_queueInv (s := { s with expander := { s.expander with job := none } }) h j)
    · exact h

theorem execCommitSwap_queueInv (h : QueueInv s) (ht : execCommitSwap s = .next t) : QueueInv t := by
  unfold execCommitSwap State.rePlan at ht
  split at ht
  · cases ht
    exact h
  · split at ht <;> cases ht
    · exact h
    · split
      · exact h
      · exact (queueInv_iff _).mpr (((queueInv_iff s).mp h).retagged (planAll_tags _ _ _))

/-! ### What the ring and the store bring -/

theorem State.courseFrame_queueInv (s : State) (f : CourseFrame) (h : QueueInv s) : QueueInv (s.courseFrame f) := by
  unfold State.courseFrame
  split
  · exact h
  · dsimp only
    split
    · exact h
    · exact h.of_same (State.handOver_queue _ _ _) (congrArg Node.state (State.handOver_node _ _ _))

theorem execWordAccessComplete_queueInv (h : QueueInv s) (ht : execWordAccessComplete s = .next t) : QueueInv t := by
  unfold execWordAccessComplete at ht
  split at ht
  · cases ht
    exact h
  · split at ht <;> cases ht
    exact h.of_same (by simp) (by simp)

/-! ### ARM, DISARM, RESTART and RESUME (R76, R77, R141 to R150) -/

/-- ARM holds the origin record alone, whose tag is one below the first (R76). -/
theorem State.armed_queueInv (s : State) (tag : Word) : QueueInv (s.armed tag) := by
  refine (queueInv_iff _).mpr ⟨by simp [State.armed], Nat.zero_le _, ⟨rfl, rfl⟩, trivial, ?_⟩
  simp [State.armed, Queue.held, Queue.initial, originRecord]

theorem opArm_queueInv (h : QueueInv s) (tag : Word) : QueueInv (opArm tag s).1 := by
  rcases opArm_cases tag s with e | ⟨-, -, -, -, e⟩
  · rw [e.1]
    exact h
  · rw [e]
    exact s.armed_queueInv tag

theorem opResume_queueInv (h : QueueInv s) : QueueInv (opResume s).1 := by
  rcases opResume_cases s with e | ⟨hold, -, -, e⟩
  · rw [e.1]
    exact h
  · have begun : (opResume s).1 = s.beginCatchup := by rw [e]
    rw [begun, State.beginCatchup_eq]
    refine State.evaluateCatchup_queueInv ?_
    exact (h.setFollowing (Or.inr (Or.inl hold)) rfl (Or.inr (Or.inr rfl)))

theorem opRestart_queueInv (h : QueueInv s) : QueueInv (opRestart s).1 := by
  rcases opRestart_cases s with e | ⟨-, -, e⟩
  · rw [e.1]
    exact h
  · rw [e]
    exact (queueInv_iff _).mpr Queue.initial_sound

end

/-! ### Every service operation -/

/-- ARM, DISARM, RESUME and RESTART change the queue or the node state, and no other service operation does. -/
theorem immediateOp_queueInv (op : ServiceOp) (data : List Word) (s : State) (h : QueueInv s) :
    QueueInv (immediateOp op data s).1 := by
  have rf : ∀ {r : State × Reply}, refusedBy s r → QueueInv r.1 := fun hr => by rw [hr.1]; exact h
  unfold immediateOp
  split
  · exact h
  · rename_i hcount
    clear hcount
    cases op <;> dsimp only
    case arm => exact opArm_queueInv h _
    case disarm => exact (queueInv_iff _).mpr Queue.initial_sound
    case resume => exact opResume_queueInv h
    case restart => exact opRestart_queueInv h
    case load =>
      rcases opLoad_cases _ _ data s with e | ⟨-, e⟩; exact rf e
      rw [e]; exact h.of_same (State.present_queue _ _) (congrArg Node.state (State.present_node _ _))
    case getParam => rcases opGetParam_cases _ _ s with e | ⟨_, -, e⟩; exact rf e; rw [e]; exact h
    case setRowCount bank v =>
      rcases opSetRowCount_cases bank v s with e | ⟨_, -, e⟩; exact rf e; rw [e]; cases bank <;> exact h
    case setMargin v => rcases opSetMargin_cases v s with e | ⟨_, -, e⟩; exact rf e; rw [e]; exact h
    case setStandstillTimeout v =>
      rcases opSetStandstillTimeout_cases v s with e | ⟨_, -, e⟩; exact rf e; rw [e]; exact h
    case setWindow w v =>
      rcases opSetWindow_cases w v s with e | ⟨_, -, -, e⟩; exact rf e; rw [e]; cases w <;> exact h
    case setGuardEnable v =>
      rcases opSetGuardEnable_cases v s with e | ⟨-, e⟩ | ⟨-, -, e⟩; exact rf e; all_goals (rw [e]; exact h)
    case setDiagnosticCheckMode v =>
      rcases opSetDiagMode_cases v s with e | ⟨-, -, e⟩ | ⟨-, e⟩; exact rf e; all_goals (rw [e]; exact h)
    case setDiagnosticCheckValue v => rcases opSetDiagValue_cases v s with e | ⟨_, -, e⟩; exact rf e; rw [e]; exact h
    case setStepsPerNeedle b v => rcases opSetSpn_cases b v s with e | ⟨_, _, -, -, -, -, e⟩; exact rf e; rw [e]; exact h
    case setRampLength b v => rcases opSetRampLength_cases b v s with e | ⟨_, _, -, -, -, e⟩; exact rf e; rw [e]; exact h
    case setMode b v => rcases opSetMode_cases b v s with e | ⟨_, _, -, -, -, -, e⟩; exact rf e; rw [e]; exact h
    case setClass b v => rcases opSetClass_cases b v s with e | ⟨_, _, -, -, -, -, -, e⟩; exact rf e; rw [e]; exact h
    case setLapSet b v => rcases opSetLapSet_cases b v s with e | ⟨_, _, -, -, -, e⟩; exact rf e; rw [e]; exact h
    case setTravelLimit b v =>
      rcases opSetTravelLimit_cases b v s with e | ⟨_, _, -, -, -, -, -, e⟩; exact rf e; rw [e]; exact h
    case setTrim b v => rcases opSetTrim_cases b v s with e | ⟨_, _, -, -, e⟩; exact rf e; rw [e]; exact h
    case setHomePosition b v => rcases opSetHomePosition_cases b v s with e | ⟨_, _, -, -, e⟩; exact rf e; rw [e]; exact h
    case setHomePolarity b v => rcases opSetHomePolarity_cases b v s with e | ⟨_, _, -, -, e⟩; exact rf e; rw [e]; exact h
    case commitClass c =>
      rcases opCommitClass_cases c s with e | ⟨_, -, -, -, -, e⟩; exact rf e
      rw [e]; exact h.of_same (State.present_queue _ _) (congrArg Node.state (State.present_node _ _))
    case jog b v =>
      rcases opJog_cases b v s with e | ⟨_, _, _, -, -, -, -, -, e⟩
      · exact rf e
      · rw [e]
        unfold jogReferenced jogUnreferenced
        dsimp only
        repeat' split
        all_goals exact h
    case reference b => rcases opReference_cases b s with e | ⟨_, -, -, -, -, e⟩; exact rf e; rw [e]; exact h
    case getStatus => rw [opGetStatus_state]; exact h
    case getFaults => rw [opGetFaults_state]; exact h
    case clearFault t b =>
      rcases opClearFault_cases t b s with e | ⟨-, e⟩ | ⟨_, -, -, e⟩ | ⟨-, e⟩ | ⟨-, e⟩; exact rf e
      all_goals (rw [e]; exact h)
    all_goals exact h

theorem State.beginRead_queueInv (s : State) (start : BitVec 24) (count : Byte) (d : Deferred) (h : QueueInv s) :
    QueueInv (s.beginRead start count d) :=
  h.of_same (State.present_queue _ _) (congrArg Node.state (State.present_node _ _))

theorem State.takeRequest_queueInv (s : State) (d : Deferred) (h : QueueInv s) : QueueInv (s.takeRequest d) :=
  State.takeRequest_keeps (fun _ _ h => h) immediateOp_queueInv State.beginRead_queueInv h d

theorem execDeferredServiceOp_queueInv {s t : State} (h : QueueInv s) (homes : BitVec 16)
    (ht : execDeferredServiceOp homes s = .next t) : QueueInv t := by
  unfold execDeferredServiceOp at ht
  dsimp only at ht
  split at ht
  · cases ht
    exact h
  · cases ht
    split
    · exact h
    · exact State.takeRequest_queueInv _ _ h

/-! ### Every command -/

/-- The end of the clear, the step pulses, the standstill and the ring's status leave the queue and the node state. -/
theorem exec_status_queueInv {i : Instr} (hi : i = .standstillExpiry ∨ i = .storeClearDone ∨ i = .ringBreak
      ∨ i = .ringSilence ∨ (∃ n, i = .stepPulse n) ∨ (∃ n, i = .stepPulseEnd n))
    {s t : State} (h : QueueInv s) (ht : exec i s = .next t) : QueueInv t := by
  rcases hi with rfl | rfl | rfl | rfl | ⟨n, rfl⟩ | ⟨n, rfl⟩
  · cases ht
    split <;> exact h
  · cases ht
    split
    · exact h.of_same (State.grant_queue _) (congrArg Node.state (State.grant_node _))
    · exact h
  · cases ht
    split <;> exact h
  · cases ht
    split <;> exact h
  · change execStepPulse n s = .next t at ht
    unfold execStepPulse at ht
    split at ht <;> cases ht
    · split <;> exact h
    · exact h
    · exact h
  · cases ht
    exact h

theorem exec_queueInv {i : Instr} {s t : State} (h : QueueInv s) (ht : exec i s = .next t) : QueueInv t := by
  have service : ∀ op env, i.request = some (op, env) → QueueInv t := fun op env hreq => by
    rw [exec_request hreq] at ht
    cases ht
    exact State.serviceRequest_keeps (P := QueueInv) (fun _ _ h => h) immediateOp_queueInv State.beginRead_queueInv
      (s := { s with homes := i.homesSeen s.homes }) h op env
  cases i
  case powerOn | pinReset => cases ht; exact (queueInv_iff _).mpr Queue.initial_sound
  case resetEnd => cases ht; exact h
  case increment => exact execIncrement_queueInv h _ _ _ ht
  case indexMissing => cases ht; exact State.settleIndex_queueInv h
  case wordAccessComplete => exact execWordAccessComplete_queueInv h ht
  case commitSwap => exact execCommitSwap_queueInv h ht
  case expansionComplete => exact execExpansionComplete_queueInv h ht
  case moveComplete n => exact execMoveComplete_queueInv h n ht
  case searchSample n homes => exact execSearchSample_queueInv h n homes ht
  case courseFrame f => cases ht; exact s.courseFrame_queueInv f h
  case corruptFrame =>
    cases ht
    exact State.receive_keeps (fun _ _ h => h) State.takeRequest_queueInv State.courseFrame_queueInv h _
  case serviceFramePass =>
    cases ht
    exact State.serviceFrame_keeps (fun _ _ h => h) State.takeRequest_queueInv h _
  case deferredServiceOp => exact execDeferredServiceOp_queueInv h _ ht
  case standstillExpiry | storeClearDone | ringBreak | ringSilence | stepPulse | stepPulseEnd =>
    exact exec_status_queueInv (by simp) h ht
  all_goals exact service _ _ rfl

theorem State.idle_queueInv {s : State} (h : QueueInv s) : QueueInv s.idle := by
  have queued : ∀ {u : State} es, QueueInv u → QueueInv (u.queueDue es) := fun es hu => by
    unfold State.queueDue
    split <;> exact hu
  unfold State.idle
  dsimp only
  split
  · refine queued _ ?_
    exact h
  · exact queued _ h

/-- Settles O57: a boundary steps or retraces the held sequence, an accepted frame lengthens it by the expected tag, ARM
begins it and DISARM and RESTART end it; every other command and every count leave the queue. -/
theorem stepKeepsQueueInv : Obligations.StepKeepsQueueInv := by
  intro s t h ht
  unfold step at ht
  split at ht
  · refine exec_queueInv ?_ ht
    exact h
  · cases ht
    exact State.idle_queueInv h

end Sys2Proof.Machine


-- ==== Course frames refused (O36) ====
namespace Sys2Proof.Machine

/-! ### The status slot (R85, R103, R170, R177) -/

theorem wordOf_bytes (w : Word) : wordOf (hiByte w) (loByte w) = w :=
  (BitVec.extractLsb'_append_extractLsb'_eq_extractLsb' rfl).trans BitVec.extractLsb'_eq_self

/-- Four flags in bits 0..3 of a byte, bits 4..7 zero (R185). -/
theorem flagByte_bits (a b c d : Bool) (k : Nat) :
    (BitVec.ofNat 8 (bitAt a 0 + bitAt b 1 + bitAt c 2 + bitAt d 3)).getLsbD k
      = [a, b, c, d].getD k false := by
  by_cases hk : k < 8
  · revert a b c d k
    decide
  · have far : [a, b, c, d].length ≤ k := show 4 ≤ k by omega
    rw [BitVec.getLsbD_of_ge _ _ (Nat.le_of_not_lt hk), List.getD_eq_default _ _ far]

/-- The attention flags bit by bit (R170). -/
theorem State.attention_bits (s : State) (k : Nat) :
    s.attention.getLsbD k
      = [s.faults.node.isSome, (List.finRange 16).any fun i => s.faults.bars[i].isSome, s.store.capture.isSome,
          s.node.desync].getD k false :=
  flagByte_bits _ _ _ _ k

theorem leastCeiling_le_bound (rs : List CourseRecord) (bound : Nat) : leastCeiling rs bound ≤ bound := by
  induction rs generalizing bound with
  | nil => exact Nat.le_refl _
  | cons r rest ih => exact (ih _).trans (Nat.min_le_left _ _)

theorem leastCeiling_le {rs : List CourseRecord} {r : CourseRecord} (hr : r ∈ rs) (bound : Nat) :
    leastCeiling rs bound ≤ r.ceiling := by
  induction rs generalizing bound with
  | nil => cases hr
  | cons a rest ih =>
    rcases List.mem_cons.mp hr with rfl | hr
    · exact (leastCeiling_le_bound rest _).trans (Nat.min_le_right _ _)
    · exact ih hr _

/-- The least ceiling is the bound or that of one of the records (R103). -/
theorem leastCeiling_attained (rs : List CourseRecord) (bound : Nat) :
    leastCeiling rs bound = bound ∨ ∃ r ∈ rs, leastCeiling rs bound = r.ceiling := by
  induction rs generalizing bound with
  | nil => exact Or.inl rfl
  | cons a rest ih =>
    have next : leastCeiling (a :: rest) bound = leastCeiling rest (min bound a.ceiling) := rfl
    rw [next]
    rcases ih (min bound a.ceiling) with e | ⟨r, hr, e⟩
    · rcases Nat.le_total bound a.ceiling with le | le
      · exact Or.inl (e.trans (Nat.min_eq_left le))
      · exact Or.inr ⟨a, List.mem_cons_self, e.trans (Nat.min_eq_right le)⟩
    · exact Or.inr ⟨r, List.mem_cons_of_mem _ hr, e⟩

/-- The two ceiling bytes of a slot carry the node ceiling whole: it is at most 65535 (R103, R185). -/
theorem State.slot_ceiling (s : State) (v : Verdict) :
    (wordOf (s.slot v).ceilingHi (s.slot v).ceilingLo).toNat = s.queue.ceiling := by
  have le : s.queue.ceiling ≤ maxSpeed := leastCeiling_le_bound _ _
  unfold maxSpeed at le
  show (wordOf (hiByte (BitVec.ofNat 16 s.queue.ceiling)) (loByte (BitVec.ofNat 16 s.queue.ceiling))).toNat = _
  rw [wordOf_bytes, BitVec.toNat_ofNat]
  omega

/-- The slot written is the one of the node address; the other seven stay (R177). -/
theorem frameWithSlot_slots (f : CourseFrame) (straps : BitVec 3) (x : Slot) (k : Fin 8) :
    (frameWithSlot f straps x).slots[k] = if k.val = straps.toNat then x else f.slots[k] := by
  simp only [frameWithSlot, Fin.getElem_fin, Vector.getElem_set, eq_comm]

/-! ### The obligation -/

/-- A course frame refused at hand-over is sent on with the slot of the state it meets (R78, R85). -/
theorem exec_courseFrame_refused {s : State} (active : s.inReset = false) (free : s.expansionWaits = false) {f : CourseFrame}
    {v : Verdict} (hv : handOverCheck s f = some v) :
    exec (.courseFrame f) s
      = .next { s with ring := s.courseSent f (frameWithSlot f s.ring.straps (s.slot v)) } := by
  have refused : handOverCheck { s with ring := s.courseEntered f } f = some v := hv
  rw [exec_courseFrame_handed active free, State.handOver, refused]
  rfl

/-- Settles O36: the frame is answered with the slot of the state as it was, each byte by its own rule. -/
theorem courseFrameRefused : Obligations.CourseFrameRefused := by
  intro s f v active idle staged hv
  have free : s.expansionWaits = false := by simp [State.expansionWaits, idle, staged]
  refine ⟨s.slot v, frameWithSlot f s.ring.straps (s.slot v), exec_courseFrame_refused active free hv, rfl,
    frameWithSlot_slots f _ _, ?_, ?_, fun room => ?_, s.attention_bits 0, ?_, s.attention_bits 2, s.attention_bits 3,
    fun k hk => ?_, fun r hr => ?_, ?_⟩
  · cases v <;> rfl
  · show BitVec.ofNat 8 s.node.state.number = _
    cases s.node.state <;> rfl
  · show (BitVec.ofNat 8 s.queue.pending.length).toNat = _
    rw [BitVec.toNat_ofNat]
    omega
  · rw [show (s.slot v).attention.getLsbD 1 = _ from s.attention_bits 1]
    simp
  · show s.attention.getLsbD k = false
    rw [s.attention_bits k, List.getD_eq_default _ _ hk]
  · rw [s.slot_ceiling v]
    exact leastCeiling_le hr _
  · rw [s.slot_ceiling v]
    exact leastCeiling_attained _ _

end Sys2Proof.Machine


-- ==== ARM, DISARM and RESTART (O49) ====
namespace Sys2Proof.Machine

/-! ### ARM's conditions (R139, R140) -/

section
variable {s : State} {tag : Word}

theorem anyMotionBar_iff {p : Bar → Bool} {P : Bar → Prop} (h : ∀ b, p b = true ↔ P b) :
    anyMotionBar s p = true ↔ ∃ n : BarIx, s.bars[n].mode = .motion ∧ P s.bars[n] := by
  simp [anyMotionBar, anyBar_true, h, -Fin.getElem_fin]

theorem anyMoving_iff : anyMotionBar s (fun b => b.motion.isMoving) = true
    ↔ ∃ n : BarIx, s.bars[n].mode = .motion ∧ ∃ m, s.bars[n].motion = .moving m :=
  anyMotionBar_iff (P := fun b => ∃ m, b.motion = .moving m) fun b => by cases h : b.motion <;> simp [Motion.isMoving]

theorem anyUnclassed_iff : anyMotionBar s (fun b => (s.classOf b).state != .valid) = true
    ↔ ∃ n : BarIx, s.bars[n].mode = .motion ∧ (s.classOf s.bars[n]).state ≠ .valid :=
  anyMotionBar_iff fun _ => bne_iff_ne

theorem anyUnreferenced_iff : anyMotionBar s (fun b => !b.referenced) = true
    ↔ ∃ n : BarIx, s.bars[n].mode = .motion ∧ s.bars[n].referenced = false :=
  anyMotionBar_iff (P := fun b => b.referenced = false) fun _ => by rw [Bool.not_eq_true']

theorem anyOffNeedle_iff : anyMotionBar s (fun b => b.pos % (s.classOf b).spn != 0) = true
    ↔ ∃ n : BarIx, s.bars[n].mode = .motion ∧ s.bars[n].pos % (s.classOf s.bars[n]).spn ≠ 0 :=
  anyMotionBar_iff (P := fun b => b.pos % (s.classOf b).spn ≠ 0) fun _ => bne_iff_ne

theorem Node.windowsOk_eq_false (n : Node) :
    n.windowsOk = false ↔ n.us < 1 ∨ n.os < n.us + n.ul ∨ 1439 < n.os + n.ol := by
  rw [← Bool.not_eq_true, Node.windowsOk_iff]
  omega

/-- ARM's readiness conditions in their order (R140). -/
theorem notReadyReason_eq (s : State) : notReadyReason s
    = if s.tracker.angleValid = false then some .angle
      else if ∃ n : BarIx, s.bars[n].mode = .motion ∧ (s.classOf s.bars[n]).state ≠ .valid then some .cls
      else if ∃ n : BarIx, s.bars[n].mode = .motion ∧ s.bars[n].referenced = false then some .unreferenced
      else if ∃ n : BarIx, s.bars[n].mode = .motion ∧ s.bars[n].pos % (s.classOf s.bars[n]).spn ≠ 0 then some .offNeedle
      else if s.node.us < 1 ∨ s.node.os < s.node.us + s.node.ul ∨ 1439 < s.node.os + s.node.ol then some .windows
      else if s.store.diagMode = true then some .diag
      else none := by
  simp only [notReadyReason, anyUnclassed_iff, anyUnreferenced_iff, anyOffNeedle_iff, Node.windowsOk_eq_false]

theorem opArm_state (on : s.node.state ≠ .offline) : opArm tag s = (s, .only .state) := by
  rw [opArm, if_pos on]

theorem opArm_busy (off : s.node.state = .offline) (busy : s.store.state = .clearing
    ∨ ∃ n : BarIx, s.bars[n].mode = .motion ∧ ∃ m, s.bars[n].motion = .moving m) : opArm tag s = (s, .only .busy) := by
  rw [opArm, if_neg (not_not.mpr off)]
  by_cases clearing : s.store.state = .clearing
  · rw [if_pos clearing]
  · rw [if_neg clearing, if_pos (anyMoving_iff.mpr (busy.resolve_left clearing))]

/-- In OFFLINE with the store READY and no MOTION bar MOVING, ARM is refused by the first readiness condition that fails, and
taken when none does (R139, R140). -/
theorem opArm_offline (off : s.node.state = .offline) (ready : s.store.state = .ready)
    (still : ¬ ∃ n : BarIx, s.bars[n].mode = .motion ∧ ∃ m, s.bars[n].motion = .moving m) :
    (∀ r, notReadyReason s = some r → opArm tag s = (s, .notReady r))
      ∧ (notReadyReason s = none → opArm tag s = (s.armed tag, .only .done)) := by
  rw [opArm, if_neg (not_not.mpr off), if_neg (by rw [ready]; nofun), if_neg (mt anyMoving_iff.mp still)]
  exact ⟨fun r hr => by rw [hr], fun hr => by rw [hr]⟩

/-- A bar's plan in the origin record (R76). -/
theorem originRecord_plan (s : State) (tag : Word) (n : BarIx) :
    (originRecord s tag).plans[n] = originPlan s s.bars[n] := by
  simp [originRecord]

/-- The plan of a MOTION bar stands at its needle space, that of any other is EXCLUDED (R76). -/
theorem originPlan_motion {b : Bar} (hm : b.mode = .motion) :
    originPlan s b = { source := .stand, lead := b.pos / (s.classOf b).spn, trail := b.pos / (s.classOf b).spn,
                       clamped := false, underlap := 0, overlap := 0 } := by
  rw [originPlan, if_pos hm]

theorem originPlan_excluded {b : Bar} (hm : b.mode ≠ .motion) : (originPlan s b).source = .excluded := by
  rw [originPlan, if_neg hm]
  rfl

end

/-! ### The obligation -/

/-- Settles O49: ARM by its checks in their order, DISARM and RESTART by their effects. -/
theorem armDisarmRestart : Obligations.ArmDisarmRestart := by
  intro s env h hdata used unclassed unreferenced offNeedle windowsBad
  have same : ∀ tag rep, opArm tag { s with ring := s.requestEntered (.arm tag) env }
      = ({ s with ring := s.requestEntered (.arm tag) env }, rep) →
      exec (.arm env tag) s = .next (s.answered (.arm tag) env rep) := fun tag rep own =>
    exec_answered_same _ (.arm tag) rfl h rfl nofun rep (by rw [hdata]; exact own)
  refine ⟨fun tag on => same tag _ (opArm_state on), fun tag off busy => same tag _ (opArm_busy off busy),
    fun tag off ready still => ?_, ?_, fun still idle => ?_⟩
  · obtain ⟨fails, passes⟩ :=
      opArm_offline (tag := tag) (s := { s with ring := s.requestEntered (.arm tag) env }) off ready still
    have refused : ∀ r, notReadyReason s = some r →
        exec (.arm env tag) s = .next (s.answered (.arm tag) env (.notReady r)) := fun r hr => same tag _ (fails r hr)
    have reasons := notReadyReason_eq s
    refine ⟨fun a => refused _ ?_, fun a c => refused _ ?_, fun a c u => refused _ ?_, fun a c u o => refused _ ?_,
      fun a c u o w => refused _ ?_, fun a c u o w d => refused _ ?_, fun a c u o w d => ?_⟩
    · rw [reasons, if_pos a]
    · rw [reasons, if_neg (ne_false_of_eq_true a), if_pos c]
    · rw [reasons, if_neg (ne_false_of_eq_true a), if_neg c, if_pos u]
    · rw [reasons, if_neg (ne_false_of_eq_true a), if_neg c, if_neg u, if_pos o]
    · rw [reasons, if_neg (ne_false_of_eq_true a), if_neg c, if_neg u, if_neg o, if_pos w]
    · rw [reasons, if_neg (ne_false_of_eq_true a), if_neg c, if_neg u, if_neg o, if_neg w, if_pos d]
    · have none : notReadyReason s = none := by
        rw [reasons, if_neg (ne_false_of_eq_true a), if_neg c, if_neg u, if_neg o, if_neg w, if_neg (ne_true_of_eq_false d)]
      refine ⟨_, originRecord s tag, exec_answered_own (.arm env tag) (.arm tag) rfl h rfl nofun
          (State.armed { s with ring := s.requestEntered (.arm tag) env } tag) (.only .done) ?_, rfl,
        trimsActive_of_bars rfl, rfl, rfl, rfl, rfl, rfl, rfl, fun n hm => ?_, fun n hm => ?_⟩
      · rw [hdata, immediateOp_arm]
        exact passes none
      · rw [originRecord_plan, originPlan_motion hm]
      · rw [originRecord_plan, originPlan_excluded hm]
  · exact ⟨_, exec_answered_own (.disarm env) .disarm rfl h rfl nofun
      (opDisarm { s with ring := s.requestEntered .disarm env }).1 (.only .done) (by rw [hdata]; rfl),
      trimsActive_of_bars rfl, rfl⟩
  · refine ⟨_, exec_answered_own (.restart env) .restart rfl h rfl nofun
      (State.restarted { s with ring := s.requestEntered .restart env }) (.only .done) ?_, trimsActive_of_bars rfl, rfl,
      fun n => ?_⟩
    · rw [hdata, immediateOp_restart]
      exact opRestart_done still idle
    · simp [State.restarted, Faults.initial]

end Sys2Proof.Machine


-- ==== The planning of a record and its ceiling (O31, O32) ====
namespace Sys2Proof.Machine

/-! ### The requirement of a bar (R100, R101) -/

/-- A quotient rounded up is the least whole number whose product with the divisor reaches the dividend. -/
theorem ceilDiv_le_iff {a b c : Nat} (hb : 1 ≤ b) : ceilDiv a b ≤ c ↔ a ≤ c * b := by
  have same : ceilDiv a b = a ⌈/⌉ b := (Nat.ceilDiv_eq_add_pred_div a b).symm
  rw [same, ceilDiv_le_iff_le_mul hb, Nat.mul_comm]

theorem distance_eq_abs (a b : Nat) : (distance a b : Int) = |(a : Int) - b| := by
  unfold distance
  split
  · next le => rw [abs_of_nonpos (by omega)]; omega
  · next gt => rw [abs_of_nonneg (by omega)]; omega

/-- A period meets a bar's requirement when the bar's plan is EXCLUDED or when both of its moves fit their windows. -/
theorem barRequirement_le_iff (c : DriveClass) (p : BarPlan) {ul ol t : Nat} (hul : 1 ≤ ul) (hol : 1 ≤ ol) :
    barRequirement c ul ol p ≤ t ↔ (p.source ≠ .excluded →
      lookupTime c p.underlap * 1440 ≤ t * ul ∧ lookupTime c p.overlap * 1440 ≤ t * ol) := by
  unfold barRequirement
  split
  · next excluded => simp [excluded]
  · next moved => simp [moved, requirement, ceilDiv_le_iff hul, ceilDiv_le_iff hol]

theorem foldl_max_le_iff {α : Type} (f : α → Nat) (l : List α) (start c : Nat) :
    l.foldl (fun m i => max m (f i)) start ≤ c ↔ start ≤ c ∧ ∀ i ∈ l, f i ≤ c := by
  induction l generalizing start with
  | nil => simp
  | cons a rest ih => rw [List.foldl_cons, ih, List.forall_mem_cons, max_le_iff, and_assoc]

/-- Below the cap, a period is at least the required one exactly when it meets the requirement of every bar (R101). -/
theorem requiredPeriod_le_iff (s : State) (plans : Vector BarPlan 16) {t : Nat} (below : t < saturated) :
    requiredPeriod s plans ≤ t
      ↔ ∀ n : BarIx, barRequirement (s.classOf s.bars[n]) s.node.ul s.node.ol plans[n] ≤ t := by
  rw [requiredPeriod, min_le_iff, or_iff_right (Nat.not_le.mpr below), foldl_max_le_iff]
  simp

theorem requiredPeriod_le_saturated (s : State) (plans : Vector BarPlan 16) : requiredPeriod s plans ≤ saturated :=
  Nat.min_le_left _ _

/-! ### The planned record (R97, R98, R101) -/

theorem planDistances_source (p prev : BarPlan) : (planDistances p prev).source = p.source := by
  unfold planDistances
  split <;> rfl

theorem planDistances_lead (p prev : BarPlan) : (planDistances p prev).lead = p.lead := by
  unfold planDistances
  split <;> rfl

theorem planDistances_trail (p prev : BarPlan) : (planDistances p prev).trail = p.trail := by
  unfold planDistances
  split <;> rfl

theorem planDistances_moved {p : BarPlan} (prev : BarPlan) (moved : p.source ≠ .excluded) :
    planDistances p prev = { p with underlap := distance p.lead prev.trail, overlap := distance p.trail p.lead } :=
  if_neg moved

section
variable (s : State) (r prev : CourseRecord)

theorem planRecord_plan (n : BarIx) :
    (planRecord s r prev).plans[n] = planDistances r.plans[n] prev.plans[n] := by
  simp [planRecord]

/-- Planning leaves what the course frame and the expansion gave the record (R44, R97). -/
theorem planRecord_keeps : (planRecord s r prev).tag = r.tag ∧ (planRecord s r prev).row = r.row
    ∧ (planRecord s r prev).bank = r.bank ∧ (planRecord s r prev).corrected = r.corrected := by
  simp only [planRecord, and_self]

theorem planRecord_tMin : (planRecord s r prev).tMin = requiredPeriod s (planRecord s r prev).plans := rfl

theorem planRecord_ceiling : (planRecord s r prev).ceiling = ceilingOf (planRecord s r prev).tMin := by
  simp only [planRecord]

theorem planRecord_tMin_le : (planRecord s r prev).tMin ≤ saturated := requiredPeriod_le_saturated s _

/-- Below the cap, a period is at least T_min exactly when every bar that is not EXCLUDED can make both its moves in their
windows (R100, R101). -/
theorem planRecord_tMin_le_iff {t : Nat} (hul : 1 ≤ s.node.ul) (hol : 1 ≤ s.node.ol) (below : t < saturated) :
    (planRecord s r prev).tMin ≤ t ↔ ∀ n : BarIx, r.plans[n].source ≠ .excluded →
      lookupTime (s.classOf s.bars[n]) (planRecord s r prev).plans[n].underlap * 1440 ≤ t * s.node.ul
        ∧ lookupTime (s.classOf s.bars[n]) (planRecord s r prev).plans[n].overlap * 1440 ≤ t * s.node.ol := by
  rw [planRecord_tMin, requiredPeriod_le_iff s _ below]
  refine forall_congr' fun n => ?_
  have source : (planRecord s r prev).plans[n].source = r.plans[n].source := by
    rw [planRecord_plan, planDistances_source]
  rw [barRequirement_le_iff _ _ hul hol, source]

/-- No period under T_min is long enough: some bar's underlap or overlap move does not fit its window then (R101). -/
theorem planRecord_tMin_governed (hul : 1 ≤ s.node.ul) (hol : 1 ≤ s.node.ol) (hne : (planRecord s r prev).tMin ≠ 0) :
    ∃ n : BarIx, r.plans[n].source ≠ .excluded
      ∧ (((planRecord s r prev).tMin - 1) * s.node.ul
            < lookupTime (s.classOf s.bars[n]) (planRecord s r prev).plans[n].underlap * 1440
        ∨ ((planRecord s r prev).tMin - 1) * s.node.ol
            < lookupTime (s.classOf s.bars[n]) (planRecord s r prev).plans[n].overlap * 1440) := by
  have cap := planRecord_tMin_le s r prev
  have short : ¬ (planRecord s r prev).tMin ≤ (planRecord s r prev).tMin - 1 := by omega
  rw [planRecord_tMin_le_iff s r prev hul hol (by omega)] at short
  simp only [not_forall, not_and_or, Nat.not_le] at short
  obtain ⟨n, moved, exceeds⟩ := short
  exact ⟨n, moved, exceeds⟩

end

/-- Settles O31: T_min is the least period that every bar's moves fit, so it is reached by one of them. -/
theorem courseRequirement : Obligations.CourseRequirement := by
  intro s r prev hul hol
  dsimp only
  obtain ⟨tag, row, bank, corrected⟩ := planRecord_keeps s r prev
  refine ⟨tag, row, bank, corrected, fun n => ?_, fun n moved => ?_, planRecord_tMin_le s r prev,
    planRecord_tMin_governed s r prev hul hol⟩
  · rw [planRecord_plan]
    exact ⟨planDistances_source _ _, planDistances_lead _ _, planDistances_trail _ _, planDistances_clamped _ _⟩
  · have plan := (planRecord_plan s r prev n).trans (planDistances_moved prev.plans[n] moved)
    refine ⟨?_, ?_, fun below => (planRecord_tMin_le_iff s r prev hul hol below).mp le_rfl n moved⟩
    all_goals
      rw [plan]
      exact distance_eq_abs _ _

/-! ### The ceiling (R102) -/

theorem ceilingOf_zero : ceilingOf 0 = 65535 := rfl

theorem ceilingOf_pos {t : Nat} (ht : t ≠ 0) : ceilingOf t = min 65535 (600000000 / t) := if_neg ht

theorem ceilingOf_le (t : Nat) : ceilingOf t ≤ 65535 := by
  by_cases ht : t = 0
  · rw [ht, ceilingOf_zero]
  · rw [ceilingOf_pos ht]
    exact Nat.min_le_left _ _

/-- The ceiling admits a speed up to 65535 exactly when that many periods of T_min fit in a minute. -/
theorem le_ceilingOf_iff {t cpm : Nat} (hc : cpm ≤ 65535) : cpm ≤ ceilingOf t ↔ cpm * t ≤ 600000000 := by
  by_cases ht : t = 0
  · simpa [ht, ceilingOf_zero] using hc
  · rw [ceilingOf_pos ht, le_min_iff, and_iff_right hc, Nat.le_div_iff_mul_le (Nat.pos_of_ne_zero ht)]

theorem ceilingOf_eq_max {t : Nat} (ht : t ≤ 9155) : ceilingOf t = 65535 :=
  (ceilingOf_le t).antisymm ((le_ceilingOf_iff le_rfl).mpr (by omega))

/-- The planner reads no margin: the margin enters the due check alone (R102, R106). -/
theorem planRecord_margin (s : State) (r prev : CourseRecord) (m : Nat) :
    planRecord { s with node := { s.node with margin := m } } r prev = planRecord s r prev := rfl

/-- Settles O32: the ceiling is `ceilingOf` of a T_min that the cap bounds. -/
theorem ceilingOfRecord : Obligations.CeilingOfRecord := by
  refine ⟨fun s r prev => ?_, by norm_num⟩
  have cap : (planRecord s r prev).tMin ≤ 16777215 := planRecord_tMin_le s r prev
  simp only [planRecord_margin, planRecord_ceiling]
  generalize (planRecord s r prev).tMin = t at cap
  refine ⟨fun zero => zero ▸ ceilingOf_zero, ceilingOf_pos, fun _ cpm slow fast => ?_,
    (le_ceilingOf_iff (by norm_num)).mpr (by omega), ceilingOf_le t, fun h => h ▸ by decide, ceilingOf_eq_max,
    fun h => h ▸ by decide, fun _ => trivial⟩
  rw [le_ceilingOf_iff fast, Nat.le_div_iff_mul_le slow, Nat.mul_comm]

end Sys2Proof.Machine

-- ==== Pulses, and the end of a move (O20, O21) ====
namespace Sys2Proof.Machine

/-! ### Pulses (R110, R112, R115) -/

/-- Settles O20: the pulse's record, with the step position counted for a referenced bar. -/
theorem pulsesFollowTheMove : Obligations.PulsesFollowTheMove := by
  intro s n
  refine ⟨fun m moving more => ?_, rfl⟩
  have pulse : execStepPulse n s = .next (s.setBar n (s.bars[n].movePulse m)) := by
    simp only [execStepPulse, moving, if_pos more]
  rw [show exec (.stepPulse n) s = _ from pulse, Bar.movePulse, Bar.posAfterPulse_eq]
  rfl

/-! ### The end of a catch-up (R146) -/

/-- A MOTION bar stands STILL at its catch-up target. -/
def Bar.atCatchup (b : Bar) (target : Option Nat) : Prop :=
  b.mode = .motion → b.motion = .still ∧ target = some b.pos

theorem catchupReached_iff (s : State) :
    catchupReached s = true ↔ ∀ k : BarIx, s.bars[k].atCatchup s.node.catchup[k] := by
  have still : ∀ x : Motion, x.isStill = true ↔ x = .still := fun x => by cases x <;> simp [Motion.isStill]
  simp [catchupReached, Bar.atCatchup, still, -Fin.getElem_fin, imp_iff_not_or]

/-- The completion makes the node RUNNING, releases the stop request and discards the targets. -/
theorem State.evaluateCatchup_reached {s : State} (catchup : s.node.state = .catchup)
    (reached : ∀ k : BarIx, s.bars[k].atCatchup s.node.catchup[k]) :
    s.evaluateCatchup = { s with node := { s.node with state := .running, stopReq := false, catchup := noTargets } } := by
  rw [State.evaluateCatchup, if_pos ⟨catchup, (catchupReached_iff s).mpr reached⟩]
  rfl

/-- Outside CATCHUP, and while some MOTION bar is not at its target, the evaluation leaves the state. -/
theorem State.evaluateCatchup_idle {s : State} (h : s.node.state ≠ .catchup) : s.evaluateCatchup = s :=
  if_neg fun reached => h reached.1

theorem State.evaluateCatchup_unreached {s : State} {k : BarIx} (h : ¬ s.bars[k].atCatchup s.node.catchup[k]) :
    s.evaluateCatchup = s :=
  if_neg fun reached => h ((catchupReached_iff s).mp reached.2 k)

/-- The evaluation changes the node controller at most, and does not read the ring port. -/
theorem State.evaluateCatchup_frame (s : State) :
    s.evaluateCatchup = { s with node := s.evaluateCatchup.node, bars := s.evaluateCatchup.bars } := by
  rcases s.evaluateCatchup_cases with e | ⟨-, -, e⟩ <;> rw [e]

theorem State.evaluateCatchup_withRing (s : State) (r : Ring) :
    State.evaluateCatchup { s with ring := r } = { s.evaluateCatchup with ring := r } := by
  have reached : catchupReached { s with ring := r } = catchupReached s := rfl
  unfold State.evaluateCatchup
  rw [reached]
  split <;> rfl

/-! ### The end of a move (R116) -/

/-- A unit at rest, with no next target. -/
def Bar.rested (b : Bar) : Bar := { b with motion := .still, next := none }

/-- The unit rests without a next target, in a node state that discards it, or with one at its position. -/
theorem Bar.completeMove_rests {b : Bar} (ramp : Option (List Nat)) {st : NodeState}
    (h : b.next = none ∨ takesUpNext st = false ∨ b.next = some b.pos) : b.completeMove ramp st = b.rested := by
  unfold Bar.completeMove
  cases hn : b.next with
  | none => rfl
  | some t =>
    rcases h with h | h | h
    · exact absurd (hn.symm.trans h) nofun
    · simp only [h]
      rfl
    · obtain rfl : t = b.pos := Option.some.inj (hn.symm.trans h)
      have here : b.rested.startToward ramp b.pos = b.rested := if_pos rfl
      dsimp only
      split
      · exact here
      · rfl

/-- With a next target elsewhere a node state that takes it up has the unit start towards it from rest. -/
theorem Bar.completeMove_starts {b : Bar} (ramp : Option (List Nat)) {st : NodeState} {target : Nat}
    (takes : takesUpNext st = true) (hn : b.next = some target) :
    b.completeMove ramp st = b.rested.giveTarget ramp target := by
  simp only [Bar.completeMove, hn, takes]
  rfl

theorem exec_moveComplete {s : State} {n : BarIx} {m : Move} (moving : s.bars[n].motion = .moving m)
    (done : m.steps ≤ m.emitted) : exec (.moveComplete n) s = .next (s.completeMove n) := by
  show execMoveComplete n s = _
  simp only [execMoveComplete, moving, if_neg (Nat.not_lt.mpr done)]

/-- Outside CATCHUP the completion is the unit's own. -/
theorem State.completeMove_idle {s : State} (h : s.node.state ≠ .catchup) (n : BarIx) :
    s.completeMove n = s.setBar n (s.bars[n].completeMove (s.rampOf s.bars[n]) s.node.state) :=
  State.evaluateCatchup_idle (s := s.setBar n _) h

/-- A unit that starts towards its next target is not at its catch-up target, so the node stays as it is. -/
theorem State.completeMove_starts {s : State} {n : BarIx} {target : Nat} {ramp : List Nat}
    (takes : s.node.state = .running ∨ (s.node.state = .catchup ∧ s.bars[n].mode = .motion))
    (hn : s.bars[n].next = some target) (elsewhere : target ≠ s.bars[n].pos) (hramp : s.rampOf s.bars[n] = some ramp) :
    s.completeMove n = s.setBar n (s.bars[n].rested.giveTarget (some ramp) target) := by
  have started : s.bars[n].completeMove (s.rampOf s.bars[n]) s.node.state
      = s.bars[n].rested.giveTarget (some ramp) target := by
    rw [hramp]
    refine Bar.completeMove_starts _ ?_ hn
    rcases takes with h | ⟨h, -⟩ <;> rw [h] <;> rfl
  rw [State.completeMove, started]
  rcases takes with running | ⟨-, motion⟩
  · exact State.evaluateCatchup_idle (s := s.setBar n _) (by rw [State.setBar_node, running]; nofun)
  · refine State.evaluateCatchup_unreached (k := n) fun reached => ?_
    rw [State.setBar_same, Bar.giveTarget_starts (b := s.bars[n].rested) rfl elsewhere] at reached
    exact absurd (reached motion).1 nofun

/-- Settles O21: the unit rests or starts anew, and in CATCHUP the completion is evaluated. -/
theorem moveCompletes : Obligations.MoveCompletes := by
  intro s n m moving done
  rw [exec_moveComplete moving done]
  have rests : s.node.state ≠ .catchup →
      s.bars[n].next = none ∨ takesUpNext s.node.state = false ∨ s.bars[n].next = some s.bars[n].pos →
      s.completeMove n = s.setBar n s.bars[n].rested := fun on h => by
    rw [State.completeMove_idle on, Bar.completeMove_rests _ h]
  refine ⟨fun on hn => ?_, fun target hn => ⟨fun on => ?_, fun running here => ?_, fun ramp takes elsewhere hramp => ?_⟩,
    fun catchup hn => ?_⟩
  · rw [rests on (Or.inl hn), Bar.rested, ← hn]
  · rw [rests ?_ (Or.inr (Or.inl ?_))]
    · rfl
    · rcases on with h | h | h <;> rw [h] <;> nofun
    · rcases on with h | h | h <;> rw [h] <;> rfl
  · rw [rests (by rw [running]; nofun) (Or.inr (Or.inr (by rw [hn, here])))]
    rfl
  · rw [State.completeMove_starts takes hn elsewhere hramp, Bar.giveTarget_starts (b := s.bars[n].rested) rfl elsewhere]
    exact ⟨_, rfl, rfl, rfl, rfl, distance_eq _ _, rfl⟩
  · have completes : s.completeMove n = (s.setBar n s.bars[n].rested).evaluateCatchup := by
      rw [State.completeMove, Bar.completeMove_rests _ (hn.imp_right Or.inr)]
    rw [completes]
    refine ⟨_, rfl, ?_, ?_⟩
    · conv_lhs => rw [State.evaluateCatchup_frame]
      rfl
    · rw [State.evaluateCatchup_bars]
      refine ⟨fun k other => s.setBar_other _ other, s.setBar_same n _, fun reached => ?_, ?_⟩
      · rw [State.evaluateCatchup_reached (s := s.setBar n s.bars[n].rested) catchup reached]
        rfl
      · rintro ⟨k, motion, away⟩
        rw [State.evaluateCatchup_unreached (s := s.setBar n s.bars[n].rested) fun reached => away (reached motion)]
        rfl

end Sys2Proof.Machine

-- ==== Parameters read (O48) ====
namespace Sys2Proof.Machine

/-! ### Each table by its identities (12.5) -/

theorem nodeParam_none (s : State) {identity : Nat} (h : identity = 0 ∨ 12 ≤ identity) : nodeParam s identity = none := by
  unfold nodeParam
  split
  case h_12 => rfl
  all_goals omega

theorem classParam_none (k : DriveClass) {identity : Nat} (h : identity ≠ 16 ∧ identity ≠ 17) :
    classParam k identity = none := by
  unfold classParam
  split
  case h_3 => rfl
  all_goals omega

theorem barParam_none (b : Bar) {identity : Nat} (h : identity < 32 ∨ 38 < identity) : barParam b identity = none := by
  unfold barParam
  split
  case h_8 => rfl
  all_goals omega

theorem knownIdentity_false {identity : Byte} (h : knownIdentity identity = false) :
    (identity.toNat = 0 ∨ 12 ≤ identity.toNat) ∧ (identity.toNat ≠ 16 ∧ identity.toNat ≠ 17)
      ∧ (identity.toNat < 32 ∨ 38 < identity.toNat) := by
  simp only [knownIdentity, Bool.or_eq_false_iff, Bool.and_eq_false_iff, decide_eq_false_iff_not, beq_eq_false_iff_ne] at h
  omega

/-! ### A parameter by its identity and index (R181) -/

section
variable {s : State} {identity index : Byte} {v : Word}

/-- The index of a node parameter is not read. -/
theorem paramValue_node (h : nodeParam s identity.toNat = some v) : paramValue s identity index = some v := by
  rw [paramValue, h]
  rfl

theorem paramValue_class {c : ClassIx} (hc : index.toNat = c.val) (node : nodeParam s identity.toNat = none)
    (h : classParam s.engine.classes[c] identity.toNat = some v) : paramValue s identity index = some v := by
  rw [paramValue, node, classIxOf_some.mpr hc, Option.bind_some, h]
  rfl

theorem paramValue_bar {n : BarIx} (hn : index.toNat = n.val) (node : nodeParam s identity.toNat = none)
    (cls : ∀ k, classParam k identity.toNat = none) (h : barParam s.bars[n] identity.toNat = some v) :
    paramValue s identity index = some v := by
  simp only [paramValue, node, cls, barOf_some.mpr hn, Option.bind_some, h]
  cases classIxOf index <;> rfl

/-- No table has the identity, or the index names no entry of the one that has it. -/
theorem paramValue_none (h : knownIdentity identity = false ∨ ((identity = 16 ∨ identity = 17) ∧ 4 ≤ index.toNat)
      ∨ (32 ≤ identity.toNat ∧ 16 ≤ index.toNat)) : paramValue s identity index = none := by
  have outside : (identity.toNat = 0 ∨ 12 ≤ identity.toNat)
      ∧ ((identity.toNat ≠ 16 ∧ identity.toNat ≠ 17) ∨ 4 ≤ index.toNat)
      ∧ (identity.toNat < 32 ∨ 38 < identity.toNat ∨ 16 ≤ index.toNat) := by
    rcases h with h | ⟨rfl | rfl, hi⟩ | ⟨hb, hi⟩
    · have := knownIdentity_false h
      omega
    · exact ⟨by decide, Or.inr hi, Or.inl (by decide)⟩
    · exact ⟨by decide, Or.inr hi, Or.inl (by decide)⟩
    · omega
  obtain ⟨node, cls, bar⟩ := outside
  have noClass : ((classIxOf index).bind fun c => classParam s.engine.classes[c] identity.toNat) = none := by
    rcases cls with h | h
    · simp [classParam_none _ h]
    · rw [classIxOf_none.mpr h]
      rfl
  have noBar : ((barOf index).bind fun n => barParam s.bars[n] identity.toNat) = none := by
    rcases or_assoc.mpr bar with h | h
    · simp [barParam_none _ h]
    · rw [barOf_none.mpr h]
      rfl
  rw [paramValue, nodeParam_none s node, noClass, noBar]
  rfl

end

/-- GET_PARAM taken as it arrives is answered with the parameter's value, or RANGE where there is none. -/
theorem exec_getParam {s : State} {env : Envelope} (h : s.takesService) (hdata : env.data = []) (identity index : Byte) :
    exec (.getParam env identity index) s = .next (s.answered (.getParam identity index) env
      ((paramValue s identity index).elim (.only .range) fun v => { result := .done, value := some v })) := by
  refine exec_answered_same _ (.getParam identity index) rfl h rfl nofun _ ?_
  have value : paramValue { s with ring := s.requestEntered (.getParam identity index) env } identity index
      = paramValue s identity index := rfl
  rw [hdata, immediateOp_getParam, opGetParam, value]
  cases paramValue s identity index <;> rfl

/-! ### The obligation -/

/-- Settles O48: the request is answered with the value its table gives, or RANGE where no table gives one. -/
theorem parametersRead : Obligations.ParametersRead := by
  intro s env index h hdata answer
  have read : ∀ {identity v}, paramValue s identity index = some v → answer identity v := fun value => by
    dsimp only [answer]
    rw [exec_getParam h hdata, value]
    rfl
  have node : ∀ {identity v}, nodeParam s (BitVec.toNat identity) = some v → answer identity v := fun value =>
    read (paramValue_node value)
  refine ⟨node rfl, node rfl, node rfl, node rfl, node rfl, node rfl, node rfl, node rfl, node rfl, node rfl, node ?_,
    fun c hc => ?_, fun n hn => ?_, fun identity outside => ?_⟩
  · exact congrArg some (BitVec.ofNat_toNat 16 _).symm
  · have cls : ∀ {identity v}, nodeParam s (BitVec.toNat identity) = none →
        classParam s.engine.classes[c] (BitVec.toNat identity) = some v → answer identity v := fun node value =>
      read (paramValue_class hc node value)
    exact ⟨cls rfl rfl, cls rfl rfl⟩
  · have bar : ∀ {identity v}, nodeParam s (BitVec.toNat identity) = none →
        (∀ k, classParam k (BitVec.toNat identity) = none) →
        barParam s.bars[n] (BitVec.toNat identity) = some v → answer identity v := fun node cls value =>
      read (paramValue_bar hn node cls value)
    refine ⟨bar rfl (fun _ => rfl) ?_, bar rfl (fun _ => rfl) rfl, bar rfl (fun _ => rfl) rfl, bar rfl (fun _ => rfl) rfl,
      bar rfl (fun _ => rfl) rfl, bar rfl (fun _ => rfl) rfl, bar rfl (fun _ => rfl) ?_⟩
    · show some (BitVec.ofNat 16 (modeNumber s.bars[n].mode)) = _
      cases s.bars[n].mode <;> rfl
    · show some (BitVec.ofNat 16 (polarityNumber s.bars[n].homePol)) = _
      cases s.bars[n].homePol <;> rfl
  · rw [exec_getParam h hdata, paramValue_none outside]
    rfl

end Sys2Proof.Machine

-- ==== RESUME (O50) ====
namespace Sys2Proof.Machine

/-! ### A bar given a target (R114, R118) -/

/-- A unit given a target is at it already exactly when it stood STILL there. -/
theorem Bar.giveTarget_atCatchup {b : Bar} (hm : b.mode = .motion) (ramp : Option (List Nat)) (target : Nat) :
    (b.giveTarget ramp target).atCatchup (some target) ↔ b.motion = .still ∧ target = b.pos := by
  cases moves : b.motion with
  | still =>
    by_cases here : target = b.pos
    · rw [here, Bar.giveTarget_here moves]
      simp [Bar.atCatchup, moves]
    · refine ⟨fun reached => ?_, fun both => absurd both.2 here⟩
      cases ramp with
      | none =>
        have stays : b.giveTarget none target = b := by
          simp only [Bar.giveTarget, moves, Bar.startToward, if_neg here]
        rw [stays] at reached
        exact ⟨rfl, Option.some.inj (reached hm).2⟩
      | some r =>
        rw [Bar.giveTarget_starts moves here] at reached
        exact absurd (reached hm).1 nofun
  | moving m =>
    have kept : (b.giveTarget ramp target).motion = .moving m := by simp only [Bar.giveTarget, moves]
    have mode : (b.giveTarget ramp target).mode = .motion := by simp only [Bar.giveTarget, moves, hm]
    simp [Bar.atCatchup, kept, mode]
  | searching x =>
    have kept : b.giveTarget ramp target = b := by simp only [Bar.giveTarget, moves]
    simp [Bar.atCatchup, kept, hm, moves]

/-! ### The catch-up targets (R144, R145) -/

section
variable {s : State} {n : BarIx}

/-- The needle position a bar should have, by the standing angle against its window edges. -/
theorem requiredNeedle_eq {cur : CourseRecord} {u o : Nat} (current : s.queue.current = some cur)
    (hu : s.node.edgeAngle s.bars[n].activeTrim .underlapStart = some u)
    (ho : s.node.edgeAngle s.bars[n].activeTrim .overlapStart = some o) :
    requiredNeedle s n = some
      (if s.tracker.angle < u then s.queue.history.getLast?.elim cur.plans[n].lead fun old => old.plans[n].trail
       else if s.tracker.angle < o then cur.plans[n].lead else cur.plans[n].trail) := by
  simp only [requiredNeedle, current, hu, ho]
  split
  · cases s.queue.history.getLast? <;> rfl
  · split <;> rfl

/-- A bar's catch-up target in steps, where its required needle position can be read. -/
def wantedSteps (s : State) (n : BarIx) : Nat := (requiredNeedle s n).getD 0 * (s.classOf s.bars[n]).spn

theorem catchupTarget_motion {cur : CourseRecord} (current : s.queue.current = some cur) (windows : s.node.windowsOk = true)
    (motion : s.bars[n].mode = .motion) : catchupTarget s n = some (wantedSteps s n) := by
  rw [catchupTarget, if_pos motion, wantedSteps,
    requiredNeedle_eq current (Node.edgeAngle_eq windows _ _) (Node.edgeAngle_eq windows _ _)]
  rfl

theorem catchupTarget_none (other : s.bars[n].mode ≠ .motion) : catchupTarget s n = none := if_neg other

/-- The node in CATCHUP with every unit given its target, before the completion is evaluated. -/
def State.catchingUp (s : State) : State :=
  { s with
    node := { s.node.enter .catchup with catchup := Vector.ofFn (catchupTarget s) }
    bars := giveCatchup s (Vector.ofFn (catchupTarget s)) }

theorem State.beginCatchup_catchingUp (s : State) : s.beginCatchup = s.catchingUp.evaluateCatchup := s.beginCatchup_eq

theorem State.catchingUp_target : s.catchingUp.node.catchup[n] = catchupTarget s n := by
  simp [State.catchingUp]

theorem State.catchingUp_given {target : Nat} (h : catchupTarget s n = some target) :
    s.catchingUp.bars[n] = s.bars[n].giveTarget (s.rampOf s.bars[n]) target := by
  simp [State.catchingUp, giveCatchup, h]

theorem State.catchingUp_other (h : catchupTarget s n = none) : s.catchingUp.bars[n] = s.bars[n] := by
  simp [State.catchingUp, giveCatchup, h]

/-- The catch-up does not read the ring port. -/
theorem State.catchingUp_withRing (s : State) (r : Ring) :
    State.catchingUp { s with ring := r } = { s.catchingUp with ring := r } := by
  have targets : catchupTarget { s with ring := r } = catchupTarget s := rfl
  have given : ∀ v, giveCatchup { s with ring := r } v = giveCatchup s v := fun _ => rfl
  unfold State.catchingUp
  rw [targets, given]

theorem State.beginCatchup_withRing (s : State) (r : Ring) :
    State.beginCatchup { s with ring := r } = { s.catchingUp.evaluateCatchup with ring := r } := by
  rw [State.beginCatchup_catchingUp, State.catchingUp_withRing, State.evaluateCatchup_withRing]

/-- A catch-up begins in the node controller and the bars alone. -/
theorem State.catchingUp_frame (s : State) : s.catchingUp.evaluateCatchup
    = { s with node := s.catchingUp.evaluateCatchup.node, bars := s.catchingUp.evaluateCatchup.bars } := by
  unfold State.catchingUp
  generalize giveCatchup s _ = bars
  exact State.evaluateCatchup_frame { s with node := _, bars := bars }

/-- A unit is at its target as the catch-up begins exactly when it stood STILL there. -/
theorem State.catchingUp_atCatchup {target : Nat} (motion : s.bars[n].mode = .motion)
    (h : catchupTarget s n = some target) :
    s.catchingUp.bars[n].atCatchup s.catchingUp.node.catchup[n] ↔ s.bars[n].motion = .still ∧ target = s.bars[n].pos := by
  rw [State.catchingUp_target, State.catchingUp_given h, h, Bar.giveTarget_atCatchup motion]

/-! ### RESUME's checks (R143) -/

theorem opResume_state (h : s.node.state ≠ .hold) : opResume s = (s, .only .state) := if_pos h

theorem opResume_desync (hold : s.node.state = .hold) (desync : s.node.desync = true) :
    opResume s = (s, .notReady .desync) := by
  rw [opResume, if_neg (not_not.mpr hold), if_pos desync]

theorem opResume_shaft (hold : s.node.state = .hold) (desync : s.node.desync = false) (turns : s.tracker.dir ≠ .stopped) :
    opResume s = (s, .notReady .shaft) := by
  rw [opResume, if_neg (not_not.mpr hold), if_neg (ne_true_of_eq_false desync), if_pos turns]

theorem opResume_started (hold : s.node.state = .hold) (desync : s.node.desync = false) (stopped : s.tracker.dir = .stopped) :
    opResume s = (s.beginCatchup, .only .started) := by
  rw [opResume, if_neg (not_not.mpr hold), if_neg (ne_true_of_eq_false desync), if_neg (not_not.mpr stopped)]

end

/-! ### The obligation -/

/-- Settles O50: the checks in their order, then each unit given its target and the completion evaluated. -/
theorem resumeTaken : Obligations.ResumeTaken := by
  intro s env h hdata
  have same : ∀ rep, opResume { s with ring := s.requestEntered .resume env }
      = ({ s with ring := s.requestEntered .resume env }, rep) →
      exec (.resume env) s = .next (s.answered .resume env rep) := fun rep own =>
    exec_answered_same _ .resume rfl h rfl nofun rep (by rw [hdata]; exact own)
  refine ⟨fun on => same _ (opResume_state on), fun hold desync => same _ (opResume_desync hold desync),
    fun hold desync turns => same _ (opResume_shaft hold desync turns), fun cur hold desync stopped windows current => ?_⟩
  have begun := exec_answered_own (.resume env) .resume rfl h rfl nofun
    (State.beginCatchup { s with ring := s.requestEntered .resume env }) (.only .started)
    (by rw [hdata]; exact opResume_started hold desync stopped)
  rw [State.beginCatchup_withRing] at begun
  have targets : ∀ {n : BarIx}, s.bars[n].mode = .motion → catchupTarget s n = some (wantedSteps s n) := fun motion =>
    catchupTarget_motion current windows motion
  have atTarget : ∀ {n : BarIx}, s.bars[n].mode = .motion →
      (s.catchingUp.bars[n].atCatchup s.catchingUp.node.catchup[n]
        ↔ s.bars[n].motion = .still ∧ wantedSteps s n = s.bars[n].pos) := fun motion =>
    State.catchingUp_atCatchup motion (targets motion)
  refine ⟨_, wantedSteps s, begun, ?_, fun n u o motion hu ho => ?_, ?_⟩
  · conv_lhs => rw [State.catchingUp_frame]
    rfl
  · rw [wantedSteps, requiredNeedle_eq current hu ho, Option.getD_some, Nat.mul_comm]
    cases s.queue.history.getLast? <;> rfl
  dsimp only
  rw [State.evaluateCatchup_bars]
  refine ⟨fun n other => State.catchingUp_other (catchupTarget_none other), fun n motion still here => ?_,
    fun n m motion moving => ?_, fun n ramp motion still elsewhere hramp => ?_, fun reached => ?_, ?_⟩
  · rw [State.catchingUp_given (targets motion), here, Bar.giveTarget_here still]
  · rw [State.catchingUp_given (targets motion)]
    simp only [Bar.giveTarget, moving]
  · rw [State.catchingUp_given (targets motion), hramp, Bar.giveTarget_starts still elsewhere]
    exact ⟨_, rfl, rfl, rfl, rfl, rfl, distance_eq _ _⟩
  · rw [State.evaluateCatchup_reached (s := s.catchingUp) rfl fun n => ?_]
    · rfl
    · by_cases motion : s.bars[n].mode = .motion
      · exact (atTarget motion).mpr (reached n motion)
      · rw [State.catchingUp_other (catchupTarget_none motion)]
        exact fun h => absurd h motion
  · rintro ⟨n, motion, away⟩
    rw [State.evaluateCatchup_unreached (mt (atTarget motion).mp away)]
    refine ⟨rfl, rfl, desync, fun k => ?_⟩
    rw [State.catchingUp_target]
    split
    · next motion => exact targets motion
    · next other => exact catchupTarget_none other

end Sys2Proof.Machine

-- ==== What every command does to the node controller (O60) ====
namespace Sys2Proof.Machine

/-! ### The changes of the node controller (R86, R120, R129, R135 to R150) -/

/-- Everything that a command other than power-on and the pin reset can do to the node controller's record at once. -/
inductive Node.Change : Node → Node → Prop
  /-- a hold request (R135, R137) -/
  | hold (n : Node) (desync : Bool) : Change n (n.requestHold desync)
  /-- the boundary that starts the run (R86) -/
  | starts {n : Node} (armed : n.state = .armed) : Change n (n.enter .running)
  /-- ARM (R141) -/
  | arms {n : Node} (off : n.state = .offline) : Change n (n.enter .armed)
  /-- DISARM and RESTART (R149, R150) -/
  | disarms (n : Node) : Change n n.disarmed
  /-- RESUME (R145) -/
  | resumes {n : Node} (hold : n.state = .hold) (desync : n.desync = false) (targets : Vector (Option Nat) 16) :
      Change n { n.enter .catchup with catchup := targets }
  /-- the completion of a catch-up (R146) -/
  | completes {n : Node} (catchup : n.state = .catchup) : Change n { n.enter .running with catchup := noTargets }
  /-- SET_PARAM of the margin (R105) -/
  | margin (n : Node) (v : Nat) : Change n { n with margin := v }
  /-- SET_PARAM of a window parameter (R120) -/
  | window {n : Node} (off : n.state = .offline) (w : WindowParam) (v : Nat) : Change n (n.setWindow w v)
  /-- SET_PARAM of the guard enable to 1 (R129) -/
  | guards (n : Node) : Change n { n with guardEnable := true }

/-- A run of such changes, or none. -/
def Node.Changes : Node → Node → Prop := Relation.ReflTransGen Node.Change

theorem Node.Changes.refl (n : Node) : n.Changes n := Relation.ReflTransGen.refl

theorem Node.Changes.step {n m k : Node} (h : n.Changes m) (c : m.Change k) : n.Changes k := Relation.ReflTransGen.tail h c

/-- What each change keeps, a run of them keeps. -/
theorem Node.Changes.keeps {P : Node → Prop} (one : ∀ n m, Node.Change n m → P n → P m) {n m : Node} (h : n.Changes m)
    (hn : P n) : P m := by
  induction h with
  | refl => exact hn
  | tail _ c ih => exact one _ _ c ih

@[simp] theorem Node.setWindow_guardEnable (n : Node) (w : WindowParam) (v : Nat) :
    (n.setWindow w v).guardEnable = n.guardEnable := by cases w <;> rfl

/-- No change clears the guard enable (R129). -/
theorem Node.Change.guardEnable {n m : Node} (c : n.Change m) (h : n.guardEnable = true) : m.guardEnable = true := by
  cases c with
  | hold d => rw [Node.requestHold_guardEnable, h]
  | window _ w v => rw [Node.setWindow_guardEnable, h]
  | guards => rfl
  | starts | arms | disarms | resumes | completes | margin => exact h

/-! ### The shaft (R86 to R92, R129, R138, R147) -/

section
variable {n : Node} {s t : State}

theorem State.requestHold_changes (s : State) (d : Bool) (h : n.Changes s.node) : n.Changes (s.requestHold d).node :=
  h.step (.hold s.node d)

/-- The due check of a step in RUNNING may take HOLD; a step in any other state leaves the node (R88, R106). -/
theorem State.stepQueue_changes (s : State) (tMeas : Nat) (head : CourseRecord) (rest : List CourseRecord)
    (h : n.Changes s.node) : n.Changes (s.stepQueue tMeas head rest).node := by
  by_cases running : s.node.state = .running
  · rw [State.stepQueue_running running, State.makeDueCheck]
    dsimp only
    split
    · exact h
    · exact State.requestHold_changes _ false h
  · rw [State.stepQueue_held running]
    exact h

theorem State.runDry_node (s : State) : s.runDry.node = s.node.requestHold true := by
  simp [State.runDry]

theorem State.forwardBoundary_changes (s : State) (tMeas : Nat) (h : n.Changes s.node) :
    n.Changes (s.forwardBoundary tMeas).node := by
  rcases s.node.state.offline_armed_or_follows with hs | hs | hs
  · rw [State.forwardBoundary_offline hs]
    exact h
  · cases hp : s.queue.pending with
    | nil =>
      rw [State.forwardBoundary_armed_empty hs hp]
      exact h
    | cons head rest =>
      rw [State.forwardBoundary_armed hs hp]
      exact State.stepQueue_changes { s with node := s.node.enter .running } _ _ _ (h.step (.starts hs))
  · cases hp : s.queue.pending with
    | nil =>
      rw [State.forwardBoundary_dry hs hp, State.runDry_node]
      exact s.requestHold_changes true h
    | cons head rest =>
      rw [State.forwardBoundary_steps hs hp]
      exact s.stepQueue_changes _ _ _ h

/-- A retrace leaves the node; with no history to retrace onto it takes HOLD (R90, R92). -/
theorem State.reverseBoundary_changes (s : State) (h : n.Changes s.node) : n.Changes s.reverseBoundary.node := by
  by_cases hs : s.node.state = .offline ∨ s.node.state = .armed
  · rw [State.reverseBoundary_idle hs]
    exact h
  · have follows : s.node.state.follows := by
      simpa [← or_assoc, hs] using s.node.state.offline_armed_or_follows
    rcases s.queue.history.eq_nil_or_concat with hh | ⟨older, newest, hh⟩
    · rw [State.reverseBoundary_exhausted follows hh]
      exact State.requestHold_changes _ true h
    · rw [State.reverseBoundary_retraces follows (by simpa using hh)]
      exact h

theorem State.boundary_changes (s : State) (forward : Bool) (tMeas : Nat) (h : n.Changes s.node) :
    n.Changes (s.boundary forward tMeas).node := by
  cases forward
  · exact s.reverseBoundary_changes h
  · exact s.forwardBoundary_changes tMeas h

theorem takeCrossing_changes (s : State) (c : Crossing) (h : n.Changes s.node) : n.Changes (takeCrossing s c).node := by
  rw [takeCrossing_node]
  exact h

theorem State.settleIndex_changes (h : n.Changes s.node) : n.Changes s.settleIndex.node :=
  (State.settleIndex_keeps (P := fun u => n.Changes u.node) (fun _ _ h => h) (fun _ _ _ h => h) State.requestHold_changes
    State.boundary_changes h).2

theorem execIncrement_changes (h : n.Changes s.node) (a b level : Bool) (ht : execIncrement a b level s = .next t) :
    n.Changes t.node := by
  have taken : ∀ forward, n.Changes ((s.settleIndex.adoptLevels a b).takeIncrement forward level).node := fun forward =>
    State.takeIncrement_keeps (P := fun u => n.Changes u.node) (fun _ _ h => h) (fun _ _ h => h)
      (fun s _ => s.requestHold_changes false) takeCrossing_changes State.requestHold_changes
      (fun s _ => s.requestHold_changes true) State.boundary_changes (s := s.settleIndex.adoptLevels a b)
      (State.settleIndex_changes h) forward level
  cases ht
  split
  · exact h
  · split
    · exact h
    · exact h
    · exact taken true
    · exact taken false

/-! ### The ends of moves and searches (R146) -/

theorem State.evaluateCatchup_changes (h : n.Changes s.node) : n.Changes s.evaluateCatchup.node := by
  rcases s.evaluateCatchup_cases with e | ⟨catchup, -, e⟩ <;> rw [e]
  · exact h
  · exact h.step (.completes catchup)

theorem execMoveComplete_changes (h : n.Changes s.node) (k : BarIx) (ht : execMoveComplete k s = .next t) :
    n.Changes t.node := by
  unfold execMoveComplete at ht
  split at ht <;> cases ht
  · split
    · exact h
    · exact State.evaluateCatchup_changes (s := s.setBar k _) h
  · exact h
  · exact h

theorem execSearchSample_changes (h : n.Changes s.node) (k : BarIx) (homes : BitVec 16)
    (ht : execSearchSample k homes s = .next t) : n.Changes t.node := by
  have pulsed : ∀ (u : State) (b : Bar) (p : Prop) [Decidable p], n.Changes u.node →
      n.Changes (if p then u.setBar k b else u.failSearch k).node := fun u b p _ hu => by split <;> exact hu
  unfold execSearchSample State.sampleSearch at ht
  dsimp only at ht
  split at ht <;> cases ht
  · split
    · split
      · exact h
      · exact pulsed _ _ _ h
    · split
      · exact State.evaluateCatchup_changes (s := State.setBar { s with homes := homes } k _) h
      · exact pulsed _ _ _ h
  · exact h
  · exact h

/-! ### The service operations -/

/-- The service operations whose own rule reaches the node controller. -/
def reachesNode : ServiceOp → Bool
  | .setMargin _ | .setWindow .. | .setGuardEnable _ | .arm _ | .disarm | .resume | .restart => true
  | _ => false

/-- Every other operation leaves it: in each branch of its rule it replaces another record, or none. -/
theorem immediateOp_node {op : ServiceOp} (hop : reachesNode op = false) (data : List Word) (s : State) :
    (immediateOp op data s).1.node = s.node := by
  unfold immediateOp
  split
  · rfl
  · cases op with
    | setMargin | setWindow | setGuardEnable | arm | disarm | resume | restart => cases hop
    | load start count =>
      rcases opLoad_cases start count data s with e | ⟨-, e⟩
      · exact congrArg State.node e.1
      · exact (congrArg (fun r : State × Reply => r.1.node) e).trans (State.present_node _ _)
    | commitClass c =>
      rcases opCommitClass_cases c s with e | ⟨_, -, -, -, -, e⟩
      · exact congrArg State.node e.1
      · exact (congrArg (fun r : State × Reply => r.1.node) e).trans (State.present_node _ _)
    | _ =>
      simp only [opGetParam, opSetRowCount, opSetStandstillTimeout, opSetDiagMode, opSetDiagValue, opSetSpn,
        opSetRampLength, opSetMode, opSetClass, opSetLapSet, opSetTravelLimit, opSetTrim, opSetHomePosition,
        opSetHomePolarity, opUnknownParameter, opJog, jogReferenced, jogUnreferenced, opReference, opGetStatus,
        opGetFaults, opClearFault, State.reply]
      repeat' split
      all_goals rfl

theorem immediateOp_changes (op : ServiceOp) (data : List Word) (s : State) (h : n.Changes s.node) :
    n.Changes (immediateOp op data s).1.node := by
  have refused : ∀ {r : State × Reply}, refusedBy s r → n.Changes r.1.node := fun hr => by rw [hr.1]; exact h
  by_cases hd : takesNoData op = true ∧ data ≠ []
  · rw [immediateOp_withData hd.1 hd.2]
    exact h
  have none : takesNoData op = true → data = [] := fun hop => by simpa [hop] using hd
  cases op with
  | setMargin v =>
    rw [none rfl, immediateOp_setMargin]
    rcases opSetMargin_cases v s with e | ⟨k, -, e⟩
    · exact refused e
    · rw [e]
      exact h.step (.margin s.node k)
  | setWindow w v =>
    rw [none rfl, immediateOp_setWindow]
    rcases opSetWindow_cases w v s with e | ⟨k, -, off, e⟩
    · exact refused e
    · rw [e]
      exact h.step (.window off w k)
  | setGuardEnable v =>
    rw [none rfl, immediateOp_setGuardEnable]
    rcases opSetGuardEnable_cases v s with e | ⟨-, e⟩ | ⟨-, -, e⟩
    · exact refused e
    · rw [e]
      exact h.step (.guards s.node)
    · rw [e]
      exact h
  | arm tag =>
    rw [none rfl, immediateOp_arm]
    rcases opArm_cases tag s with e | ⟨off, -, -, -, e⟩
    · exact refused e
    · rw [e]
      exact h.step (.arms off)
  | disarm =>
    rw [none rfl, immediateOp_disarm]
    exact h.step (.disarms s.node)
  | resume =>
    rw [none rfl, immediateOp_resume]
    rcases opResume_cases s with e | ⟨hold, desync, -, e⟩
    · exact refused e
    · rw [e, State.beginCatchup_catchingUp]
      exact State.evaluateCatchup_changes (s := s.catchingUp) (h.step (.resumes hold desync _))
  | restart =>
    rw [none rfl, immediateOp_restart]
    rcases opRestart_cases s with e | ⟨-, -, e⟩
    · exact refused e
    · rw [e]
      exact h.step (.disarms s.node)
  | _ =>
    rw [immediateOp_node rfl]
    exact h

@[simp] theorem State.beginRead_node (s : State) (start : BitVec 24) (count : Byte) (d : Deferred) :
    (s.beginRead start count d).node = s.node := by
  simp [State.beginRead]

theorem State.beginRead_changes (s : State) (start : BitVec 24) (count : Byte) (d : Deferred) (h : n.Changes s.node) :
    n.Changes (s.beginRead start count d).node := by
  rw [State.beginRead_node]
  exact h

theorem State.takeRequest_changes (s : State) (d : Deferred) (h : n.Changes s.node) : n.Changes (s.takeRequest d).node :=
  State.takeRequest_keeps (P := fun u => n.Changes u.node) (fun _ _ h => h) immediateOp_changes State.beginRead_changes h d

theorem execDeferredServiceOp_changes (h : n.Changes s.node) (homes : BitVec 16)
    (ht : execDeferredServiceOp homes s = .next t) : n.Changes t.node := by
  unfold execDeferredServiceOp at ht
  dsimp only at ht
  split at ht <;> cases ht
  · exact h
  · split
    · exact h
    · exact State.takeRequest_changes _ _ h

/-! ### Every command -/

@[simp] theorem State.courseFrame_node (s : State) (f : CourseFrame) : (s.courseFrame f).node = s.node := by
  unfold State.courseFrame
  split
  · rfl
  · dsimp only
    split
    · rfl
    · exact State.handOver_node _ _ _

/-- The standstill, the store, the classes, the expansion, the step pulses and the ring's status leave the node controller. -/
theorem exec_event_node {i : Instr} (hi : i = .standstillExpiry ∨ i = .storeClearDone ∨ i = .wordAccessComplete
      ∨ i = .commitSwap ∨ i = .expansionComplete ∨ (∃ k, i = .stepPulse k) ∨ (∃ k, i = .stepPulseEnd k) ∨ i = .ringBreak
      ∨ i = .ringSilence) (ht : exec i s = .next t) : t.node = s.node := by
  rcases hi with rfl | rfl | rfl | rfl | rfl | ⟨k, rfl⟩ | ⟨k, rfl⟩ | rfl | rfl
  · cases ht
    split <;> rfl
  · cases ht
    split
    · exact State.grant_node _
    · rfl
  · change execWordAccessComplete s = .next t at ht
    unfold execWordAccessComplete at ht
    split at ht
    · cases ht
      rfl
    · split at ht <;> cases ht
      simp
  · change execCommitSwap s = .next t at ht
    unfold execCommitSwap State.rePlan at ht
    split at ht
    · cases ht
      rfl
    · split at ht <;> cases ht
      · rfl
      · split <;> rfl
  · change execExpansionComplete s = .next t at ht
    unfold execExpansionComplete at ht
    split at ht
    · cases ht
      rfl
    · split at ht <;> cases ht
      · simp
      · rfl
  · change execStepPulse k s = .next t at ht
    unfold execStepPulse at ht
    split at ht <;> cases ht
    · split <;> rfl
    · rfl
    · rfl
  · cases ht
    rfl
  all_goals
    cases ht
    split <;> rfl

/-- Everything a command but power-on and the pin reset does to the node controller is a run of its changes. -/
theorem exec_changes {i : Instr} (ht : exec i s = .next t) (power : ∀ straps a b homes, i ≠ .powerOn straps a b homes)
    (pin : i ≠ .pinReset) : s.node.Changes t.node := by
  have h : s.node.Changes s.node := .refl s.node
  have service : ∀ op env, i.request = some (op, env) → s.node.Changes t.node := fun op env hreq => by
    rw [exec_request hreq] at ht
    cases ht
    exact State.serviceRequest_keeps (P := fun u => s.node.Changes u.node) (fun _ _ h => h) immediateOp_changes
      State.beginRead_changes (s := { s with homes := i.homesSeen s.homes }) h op env
  have ring : ∀ (u : State) r, s.node.Changes u.node → s.node.Changes { u with ring := r }.node := fun _ _ h => h
  have course : ∀ (u : State) f, s.node.Changes u.node → s.node.Changes (u.courseFrame f).node := fun u f h => by
    rw [State.courseFrame_node]
    exact h
  cases i
  case powerOn => exact absurd rfl (power _ _ _ _)
  case pinReset => exact absurd rfl pin
  case resetEnd => cases ht; exact h
  case increment => exact execIncrement_changes h _ _ _ ht
  case indexMissing => cases ht; exact State.settleIndex_changes h
  case moveComplete k => exact execMoveComplete_changes h k ht
  case searchSample k homes => exact execSearchSample_changes h k homes ht
  case courseFrame f => cases ht; exact course s f h
  case corruptFrame =>
    cases ht
    exact State.receive_keeps (P := fun u => s.node.Changes u.node) ring State.takeRequest_changes course h _
  case serviceFramePass =>
    cases ht
    exact State.serviceFrame_keeps (P := fun u => s.node.Changes u.node) ring State.takeRequest_changes h _
  case deferredServiceOp => exact execDeferredServiceOp_changes h _ ht
  case standstillExpiry | storeClearDone | wordAccessComplete | commitSwap | expansionComplete | stepPulse | stepPulseEnd
      | ringBreak | ringSilence => rw [exec_event_node (by simp) ht]; exact h
  all_goals exact service _ _ rfl

end

/-- The passing of time leaves the node controller. -/
@[simp] theorem State.idle_node (s : State) : s.idle.node = s.node := by
  have queued : ∀ (u : State) es, (u.queueDue es).node = u.node := fun u es => by
    unfold State.queueDue
    split <;> rfl
  unfold State.idle
  dsimp only
  split <;> exact queued _ _

/-! ### The obligation -/

/-- Settles O60: no change of the node controller clears the guard enable, and time leaves it. -/
theorem guardEnableStays : Obligations.GuardEnableStays := by
  refine ⟨fun c s t set ht power pin => ?_, fun s t idle ht => ?_⟩
  · exact (exec_changes ht power pin).keeps (fun _ _ c => c.guardEnable) set
  · rw [step, idle] at ht
    cases ht
    rw [State.idle_node]

end Sys2Proof.Machine

-- ==== Every step keeps the node controller coherent (O54) ====
namespace Sys2Proof.Machine

/-! ### The invariant of the node controller alone (R134, R135, R137, R146) -/

/-- NodeInv, of the node controller's record. -/
def Node.coherent (n : Node) : Prop :=
  n.stopReq = n.state.asserts ∧ (n.desync = true → n.state = .hold) ∧ (n.state ≠ .catchup → n.catchup = noTargets)

theorem nodeInv_iff (s : State) : NodeInv s ↔ s.node.coherent := Iff.rfl

theorem Node.initial_coherent : Node.initial.coherent := ⟨rfl, nofun, fun _ => rfl⟩

section
variable {n m : Node}

/-- Outside HOLD the invariant has DESYNC clear. -/
theorem Node.coherent.desync_clear (h : n.coherent) (on : n.state ≠ .hold) : n.desync = false := by
  obtain ⟨-, desync, -⟩ := h
  simpa using mt desync on

/-- A state taken without targets, and with DESYNC clear but in HOLD. -/
theorem Node.enter_coherent (n : Node) {st : NodeState} (desync : n.desync = false ∨ st = .hold)
    (targets : n.catchup = noTargets) : (n.enter st).coherent :=
  ⟨rfl, fun set => desync.resolve_left (by rw [show n.desync = true from set]; nofun), fun _ => targets⟩

/-- A hold request takes HOLD without targets from RUNNING and CATCHUP, sets DESYNC at most in HOLD, and does nothing in
OFFLINE and ARMED (R135, R137). -/
theorem Node.coherent.requestHold (h : n.coherent) (d : Bool) : (n.requestHold d).coherent := by
  cases hs : n.state with
  | offline =>
    rw [Node.requestHold_idle d (Or.inl hs)]
    exact h
  | armed =>
    rw [Node.requestHold_idle d (Or.inr hs)]
    exact h
  | hold =>
    obtain ⟨stop, -, targets⟩ := h
    rw [Node.requestHold_stays d hs]
    exact ⟨stop, fun _ => hs, targets⟩
  | running =>
    rw [Node.requestHold_takes d (Or.inl hs)]
    exact Node.enter_coherent { n with desync := n.desync || d, catchup := noTargets } (Or.inr rfl) rfl
  | catchup =>
    rw [Node.requestHold_takes d (Or.inr hs)]
    exact Node.enter_coherent { n with desync := n.desync || d, catchup := noTargets } (Or.inr rfl) rfl

theorem Node.coherent.setWindow (h : n.coherent) (w : WindowParam) (v : Nat) : (n.setWindow w v).coherent := by
  cases w <;> exact h

/-- Each change of the node controller keeps its invariant. -/
theorem Node.Change.coherent (c : n.Change m) (h : n.coherent) : m.coherent := by
  cases c with
  | hold d => exact h.requestHold d
  | starts armed =>
    have clear := h.desync_clear (by rw [armed]; nofun)
    obtain ⟨-, -, targets⟩ := h
    exact n.enter_coherent (Or.inl clear) (targets (by rw [armed]; nofun))
  | arms off =>
    have clear := h.desync_clear (by rw [off]; nofun)
    obtain ⟨-, -, targets⟩ := h
    exact n.enter_coherent (Or.inl clear) (targets (by rw [off]; nofun))
  | disarms => exact Node.enter_coherent { n with desync := false, catchup := noTargets } (Or.inl rfl) rfl
  | resumes hold desync targets =>
    exact ⟨rfl, fun set => absurd (desync.symm.trans set) nofun, fun away => absurd rfl away⟩
  | completes catchup =>
    exact Node.enter_coherent { n with catchup := noTargets }
      (Or.inl (h.desync_clear (by rw [catchup]; nofun))) rfl
  | window _ w v => exact h.setWindow w v
  | margin | guards => exact h

end

/-- Every command keeps the invariant: the resets make the node controller's initial record (R151), and every other command
is a run of its changes. -/
theorem exec_nodeInv {i : Instr} {s t : State} (h : NodeInv s) (ht : exec i s = .next t) : NodeInv t := by
  have changed (power : ∀ straps a b homes, i ≠ .powerOn straps a b homes) (pin : i ≠ .pinReset) : NodeInv t :=
    (exec_changes ht power pin).keeps (fun _ _ c => c.coherent) h
  cases i with
  | powerOn => cases ht; exact Node.initial_coherent
  | pinReset => cases ht; exact Node.initial_coherent
  | _ => exact changed nofun nofun

/-- Settles O54: a command is a reset or a run of changes that each keep the invariant, and time leaves the node
controller. -/
theorem stepKeepsNodeInv : Obligations.StepKeepsNodeInv := by
  intro s t h ht
  unfold step at ht
  split at ht
  · next c rest _ => exact exec_nodeInv (s := { s with pending := rest }) h ht
  · cases ht
    rw [nodeInv_iff, State.idle_node]
    exact h

end Sys2Proof.Machine

-- ==== A catch-up disturbed (O17) ====
namespace Sys2Proof.Machine

/-! ### CATCHUP until the first hold request (R135, R147) -/

/-- HOLD as a hold request takes it from CATCHUP, the stop request asserted and the targets discarded (R135). -/
def Node.halted (n : Node) : Prop := n.stopped ∧ n.catchup = noTargets

/-- CATCHUP, or HOLD as a hold request took it from there. -/
def Node.fromCatchup (n : Node) : Prop := n.state = .catchup ∨ n.halted

theorem Node.fromCatchup.holdOrCatchup {n : Node} (h : n.fromCatchup) : n.state = .hold ∨ n.state = .catchup :=
  h.elim Or.inr fun ⟨stopped, _⟩ => Or.inl stopped.1

/-- The first hold request takes HOLD, and a later one keeps it. -/
theorem Node.fromCatchup.requestHold {n : Node} (h : n.fromCatchup) (d : Bool) : (n.requestHold d).halted := by
  rcases h with catchup | halted
  · rw [Node.requestHold_takes d (Or.inr catchup)]
    exact ⟨⟨rfl, rfl⟩, rfl⟩
  · rw [Node.requestHold_stays d halted.1.1]
    exact halted

theorem State.slipPart_node (u s : State) (forward level : Bool) :
    (u.slipPart s forward level).node = u.node ∨ (u.slipPart s forward level).node = u.node.requestHold true := by
  unfold State.slipPart
  split
  · exact Or.inr rfl
  · exact Or.inl rfl

section
variable {u : State}

theorem State.slipPart_fromCatchup (h : u.node.fromCatchup) (s : State) (forward level : Bool) :
    (u.slipPart s forward level).node.fromCatchup := by
  rcases u.slipPart_node s forward level with e | e <;> rw [e]
  · exact h
  · exact Or.inr (h.requestHold true)

theorem State.boundaryPart_fromCatchup (h : u.node.fromCatchup) (s : State) (forward level : Bool) :
    (u.boundaryPart s forward level).node.fromCatchup := by
  rcases State.boundaryPart_node h.holdOrCatchup s forward level with e | e <;> rw [e]
  · exact h
  · exact Or.inr (h.requestHold true)

/-! ### What CATCHUP_DISTURBED leaves, and the rest of the increment keeps (R147, R165) -/

/-- HOLD taken from CATCHUP, and a report in the node record. -/
def Disturbed (t : State) : Prop := t.node.halted ∧ ∃ c, Records c t

theorem State.disturbed_disturbs (h : u.node.fromCatchup) (angle : Nat) : Disturbed (u.disturbed angle) := by
  obtain ⟨c, hc⟩ := Option.ne_none_iff_exists'.mp (reportTo_ne_none u.faults.node .catchupDisturbed u.currentTag angle)
  exact ⟨h.requestHold false, c, c, hc, rfl, rfl, rfl⟩

theorem Disturbed.slipPart (h : Disturbed u) (s : State) (forward level : Bool) :
    Disturbed (u.slipPart s forward level) := by
  obtain ⟨halted, c, hc⟩ := h
  unfold State.slipPart
  split
  · exact ⟨Node.fromCatchup.requestHold (Or.inr halted) true, c, hc.reportNode .indexSlip _ _⟩
  · exact ⟨halted, c, hc⟩

theorem Disturbed.boundaryPart (h : Disturbed u) (s : State) (forward level : Bool) :
    Disturbed (u.boundaryPart s forward level) := by
  obtain ⟨halted, c, hc⟩ := h
  refine ⟨?_, c, hc.boundaryPart s forward level⟩
  rcases State.boundaryPart_node (Or.inl halted.1.1) s forward level with e | e <;> rw [e]
  · exact halted
  · exact Node.fromCatchup.requestHold (Or.inr halted) true

end

/-! ### The increment -/

section
variable {s : State} {forward level : Bool}

/-- Wherever CATCHUP_DISTURBED stands in an increment in CATCHUP (entry 5), the increment ends disturbed. -/
theorem State.takeIncrement_disturbs (h : s.node.state = .catchup) (forward level : Bool) :
    Disturbed (s.takeIncrement forward level) := by
  have begun : (s.begun forward level).node.fromCatchup := Or.inl h
  have slipped := State.slipPart_fromCatchup begun s forward level
  rcases State.takeIncrement_catchup h forward level with e | e | e <;> rw [e]
  · exact ((State.disturbed_disturbs begun _).slipPart s forward level).boundaryPart s forward level
  · exact (State.disturbed_disturbs slipped _).boundaryPart s forward level
  · exact State.disturbed_disturbs (State.boundaryPart_fromCatchup slipped s forward level) _

/-- Without an index an increment crosses the boundary by the counter's wrap alone (R3). -/
theorem State.samples.crosses_none (hs : s.samples) (hi : ¬ s.indexRises level)
    (ha : s.tracker.angle ≠ (if forward then 1439 else 0)) : s.tracker.crosses forward level = false := by
  rw [← Bool.not_eq_true, hs.crosses_iff]
  rintro ⟨-, crosses⟩
  cases forward
  · exact crosses.elim ha fun rises => hi rises.1
  · exact crosses.elim (fun wraps => ha wraps.1) fun rises => hi rises.1

/-- With neither an index nor a boundary the increment in CATCHUP is its disturbance and the count (R147). -/
theorem State.takeIncrement_disturbed (hs : s.samples) (h : s.node.state = .catchup) (hi : ¬ s.indexRises level)
    (ha : s.tracker.angle ≠ (if forward then 1439 else 0)) :
    s.takeIncrement forward level
      = { (s.begun forward level).disturbed (s.turned forward) with tracker := s.tracker.turned forward level } := by
  have slips : s.tracker.slips forward level = false := Tracker.slips_within fun rises => absurd rises hi
  have crosses := hs.crosses_none hi ha
  have parts := State.takeIncrement_catchup h forward level
  simp only [State.slipPart_none slips, State.boundaryPart_none crosses] at parts
  rcases parts with e | e | e <;> exact e

end

/-- Settles O17: the hold request and the report of R147, which no slip or boundary of the increment undoes. -/
theorem catchupDisturbed : Obligations.CatchupDisturbed := by
  intro s forward level hs h
  obtain ⟨⟨⟨hold, stop⟩, targets⟩, _, _, noted, -⟩ :=
    State.takeIncrement_disturbs (s := s.turnAdopted forward) h forward level
  refine ⟨_, exec_turn hs forward level, hold, stop, targets, Option.ne_none_iff_exists'.mpr ⟨_, noted⟩, fun hi ha => ?_⟩
  rw [State.takeIncrement_disturbed (s := s.turnAdopted forward) hs h hi ha, State.nodeRecord_eq]
  refine ⟨rfl, ?_, rfl, rfl⟩
  show (s.node.requestHold false).desync = s.node.desync
  rw [Node.requestHold_desync (Or.inr (Or.inr h)), Bool.or_false]

end Sys2Proof.Machine

-- ==== The sample at the end of a search period (O22) ====
namespace Sys2Proof.Machine

/-! ### The home input (R156) -/

theorem homeActive_eq (p : Polarity) (level : Bool) : homeActive p level = (level == (p == .activeHigh)) := by
  cases p <;> cases level <;> rfl

/-! ### The outcomes of a sample (R158 to R160) -/

section
variable {s : State} {n : BarIx} {x : Search}

/-- The sample does not end the leg: the home input is still active in the back-off leg, or still inactive in the seek leg. -/
def Search.goesOn (x : Search) (active : Bool) : Prop :=
  (x.leg = .backOff ∧ active = true) ∨ (x.leg = .seek ∧ active = false)

/-- The back-off leg ends where the input is found inactive (R158). -/
theorem State.sampleSearch_turns (leg : x.leg = .backOff) (off : homeActive x.polarity (s.homeLevel n) = false) :
    s.sampleSearch n x = s.setBar n (s.bars[n].startLeg x .seek) := by
  simp only [State.sampleSearch, leg, off, if_true]

/-- The seek leg ends where the input is found active, and a catch-up may then be complete (R146, R159). -/
theorem State.sampleSearch_finds (leg : x.leg = .seek) (on : homeActive x.polarity (s.homeLevel n) = true) :
    s.sampleSearch n x = (s.setBar n (s.bars[n].homeFound x (s.classOf s.bars[n]).spn)).evaluateCatchup := by
  simp only [State.sampleSearch, leg, on, if_true]

/-- A leg that does not end emits its next pulse, while it has one left, or the search fails (R158 to R160). -/
theorem State.sampleSearch_goesOn (h : x.goesOn (homeActive x.polarity (s.homeLevel n))) :
    s.sampleSearch n x = if x.pulses < 4160 then s.setBar n (s.bars[n].legPulse x) else s.failSearch n := by
  rcases h with ⟨leg, on⟩ | ⟨leg, off⟩
  · simp only [State.sampleSearch, leg, on, Bool.true_eq_false, if_false]
    rfl
  · simp only [State.sampleSearch, leg, off, Bool.false_eq_true, if_false]
    rfl

theorem exec_searchSample (searching : s.bars[n].motion = .searching x) (homes : BitVec 16) :
    exec (.searchSample n homes) s = .next (State.sampleSearch { s with homes := homes } n x) := by
  show execSearchSample n homes s = _
  simp only [execSearchSample, searching]

end

/-- A catch-up that is not complete, or none at all, leaves the state. -/
theorem State.evaluateCatchup_incomplete {s : State}
    (h : ¬(s.node.state = .catchup ∧ ∀ k : BarIx, s.bars[k].atCatchup s.node.catchup[k])) : s.evaluateCatchup = s :=
  if_neg fun reached => h ⟨reached.1, (catchupReached_iff s).mp reached.2⟩

/-- Settles O22: the outcomes of the sample with the levels it carries, and the evaluation after home is found. -/
theorem searchSamples : Obligations.SearchSamples := by
  intro s n homes x searching
  dsimp only
  rw [exec_searchSample searching homes, ← homeActive_eq]
  refine ⟨fun leg off => ?_, fun goesOn more => ?_, fun leg on => ⟨fun unreached => ?_, fun reached => ?_⟩,
    fun goesOn spent => ?_⟩
  · exact congrArg _ (State.sampleSearch_turns (s := { s with homes := homes }) leg off)
  · rw [State.sampleSearch_goesOn (s := { s with homes := homes }) goesOn, if_pos more]
    rfl
  · exact congrArg _ ((State.sampleSearch_finds (s := { s with homes := homes }) leg on).trans
      (State.evaluateCatchup_incomplete unreached))
  · obtain ⟨catchup, atTargets⟩ := reached
    exact congrArg _ ((State.sampleSearch_finds (s := { s with homes := homes }) leg on).trans
      (State.evaluateCatchup_reached catchup atTargets))
  · rw [State.sampleSearch_goesOn (s := { s with homes := homes }) goesOn, if_neg (Nat.not_lt.mpr spent), State.barRecord_eq]
    rfl

end Sys2Proof.Machine

-- ==== JOG and REFERENCE (O51) ====
namespace Sys2Proof.Machine

/-! ### Step counts and targets (R153, R154) -/

theorem stepsOf_eq {v : Word} (low : -4096 ≤ v.toInt) (high : v.toInt ≤ 4095) : stepsOf v = some v.toInt :=
  if_pos ⟨low, high⟩

theorem stepsOf_none {v : Word} (h : v.toInt < -4096 ∨ 4095 < v.toInt) : stepsOf v = none := if_neg (by omega)

/-- A step position kept within the travel (R154). -/
theorem clampSteps_eq (p : Int) (limit : Nat) :
    (clampSteps p limit : Int) = if p < 0 then 0 else if (limit : Int) < p then (limit : Int) else p := by
  unfold clampSteps
  split
  · omega
  · split <;> omega

/-! ### A unit that starts (R114, R155, R157 to R159) -/

section
variable {b : Bar}

/-- A STILL unit starts towards a target as it does towards one that is given to it. -/
theorem Bar.startToward_still (still : b.motion = .still) (ramp : Option (List Nat)) (target : Nat) :
    b.startToward ramp target = b.giveTarget ramp target := by
  simp only [Bar.giveTarget, still]

/-- A referenced unit's move towards a target, the distance taken over the integers. -/
theorem Bar.startToward_referenced (still : b.motion = .still) (referenced : b.referenced = true) (ramp : List Nat)
    {target : Int} (inside : 0 ≤ target) (away : target ≠ b.pos) :
    b.startToward (some ramp) target.toNat
      = { b with
          dirHigh := decide ((b.pos : Int) < target)
          target := target.toNat
          step := true
          pulseLeft := 10
          pos := if (b.pos : Int) < target then b.pos + 1 else b.pos - 1
          motion := .moving { up := decide ((b.pos : Int) < target), steps := (target - b.pos).natAbs, emitted := 1,
                              ramp := ramp, left := periodAfter ramp (target - b.pos).natAbs 1 } } := by
  obtain ⟨t, rfl⟩ := Int.eq_ofNat_of_zero_le inside
  have elsewhere : t ≠ b.pos := Int.ofNat_inj.not.mp away
  have way : distance b.pos t = ((t : Int) - b.pos).natAbs := by rw [distance_eq]; split <;> omega
  rw [Bar.startToward_still still, Int.toNat_natCast, Bar.giveTarget_starts still elsewhere, way]
  simp only [referenced, Bool.true_eq_false, if_false, Int.ofNat_lt]

/-- An unreferenced unit's move keeps the step position (R112). -/
theorem Bar.startSteps_unreferenced (unreferenced : b.referenced = false) (ramp : List Nat) (up : Bool) (steps target : Nat) :
    b.startSteps ramp up steps target
      = { b with
          dirHigh := up
          target := target
          step := true
          pulseLeft := 10
          motion := .moving { up := up, steps := steps, emitted := 1, ramp := ramp, left := periodAfter ramp steps 1 } } := by
  simp only [Bar.startSteps, Bar.movePulse, Bar.posAfterPulse_eq, unreferenced, if_true]
  rfl

/-- A search takes the ramp's first period, and its first leg is the back-off where the home input is active. -/
theorem Bar.startSearch_eq (b : Bar) (ramp : List Nat) (level : Bool) :
    b.startSearch ramp level
      = { b with
          dirHigh := homeActive b.homePol level
          step := true
          pulseLeft := 10
          motion := .searching { leg := if homeActive b.homePol level then .backOff else .seek, pulses := 1,
                                 period := ramp.getD 0 0, homePos := b.homePos, polarity := b.homePol,
                                 left := ramp.getD 0 0 } } := by
  unfold Bar.startSearch
  cases homeActive b.homePol level <;> rfl

end

/-! ### The operations' own rules -/

section
variable {s : State} {bar : Byte} {n : BarIx} {v : Word} {ramp : List Nat}

/-- A bar number or a step count outside its range is JOG's first refusal. -/
theorem opJog_range (h : barOf bar = none ∨ stepsOf v = none) : opJog bar v s = (s, .only .range) := by
  rcases h with none | none
  · rw [opJog, none]
  · rw [opJog, none]
    cases barOf bar <;> rfl

/-- JOG's checks of the bar, in their order. -/
theorem opJog_named (hb : barOf bar = some n) (hv : stepsOf v = some v.toInt) : opJog bar v s
    = if s.bars[n].mode ≠ .jog then (s, .only .state)
      else if s.bars[n].busy then (s, .only .busy)
      else (s.rampOf s.bars[n]).elim (s, .only .state) fun ramp =>
        if s.bars[n].referenced then jogReferenced s n ramp v.toInt else jogUnreferenced s n ramp v.toInt := by
  rw [opJog, hb, hv]
  dsimp only
  cases s.rampOf s.bars[n] <;> rfl

theorem opJog_mode (hb : barOf bar = some n) (hv : stepsOf v = some v.toInt) (other : s.bars[n].mode ≠ .jog) :
    opJog bar v s = (s, .only .state) := by
  rw [opJog_named hb hv, if_pos other]

theorem opJog_busy (hb : barOf bar = some n) (hv : stepsOf v = some v.toInt) (jog : s.bars[n].mode = .jog)
    (moves : s.bars[n].motion ≠ .still) : opJog bar v s = (s, .only .busy) := by
  rw [opJog_named hb hv, if_neg (not_not.mpr jog), if_pos (Bar.busy_iff.mpr moves)]

theorem opJog_still (hb : barOf bar = some n) (hv : stepsOf v = some v.toInt) (jog : s.bars[n].mode = .jog)
    (still : s.bars[n].motion = .still) : opJog bar v s
      = (s.rampOf s.bars[n]).elim (s, .only .state) fun ramp =>
          if s.bars[n].referenced then jogReferenced s n ramp v.toInt else jogUnreferenced s n ramp v.toInt := by
  rw [opJog_named hb hv, if_neg (not_not.mpr jog), if_neg (mt Bar.busy_iff.mp (not_not.mpr still))]

theorem opJog_noRamp (hb : barOf bar = some n) (hv : stepsOf v = some v.toInt) (jog : s.bars[n].mode = .jog)
    (still : s.bars[n].motion = .still) (noRamp : s.rampOf s.bars[n] = none) : opJog bar v s = (s, .only .state) := by
  rw [opJog_still hb hv jog still, noRamp, Option.elim_none]

/-- JOG without steps is DONE and starts nothing, whether the bar is referenced or not. -/
theorem opJog_zero (hb : barOf bar = some n) (hv : stepsOf v = some v.toInt) (jog : s.bars[n].mode = .jog)
    (still : s.bars[n].motion = .still) (hramp : s.rampOf s.bars[n] = some ramp) (zero : v = 0) :
    opJog bar v s = (s, .only .done) := by
  have noSteps : v.toInt = 0 := by rw [zero]; rfl
  rw [opJog_still hb hv jog still, hramp, noSteps, Option.elim_some, jogReferenced, jogUnreferenced]
  exact ite_self _

theorem opJog_unreferenced (hb : barOf bar = some n) (hv : stepsOf v = some v.toInt) (jog : s.bars[n].mode = .jog)
    (still : s.bars[n].motion = .still) (hramp : s.rampOf s.bars[n] = some ramp) (nonzero : v.toInt ≠ 0)
    (unreferenced : s.bars[n].referenced = false) :
    opJog bar v s = (s.setBar n (s.bars[n].startSteps ramp (decide (0 < v.toInt)) v.toInt.natAbs 0), .only .started) := by
  rw [opJog_still hb hv jog still, hramp, Option.elim_some, if_neg (ne_true_of_eq_false unreferenced), jogUnreferenced,
    if_neg nonzero]

/-- A referenced bar jogs towards the target kept within its travel, and the reply says whether it had to be moved. -/
theorem opJog_referenced (hb : barOf bar = some n) (hv : stepsOf v = some v.toInt) (jog : s.bars[n].mode = .jog)
    (still : s.bars[n].motion = .still) (hramp : s.rampOf s.bars[n] = some ramp) (nonzero : v.toInt ≠ 0)
    (referenced : s.bars[n].referenced = true) {target : Int}
    (clamped : clampSteps (s.bars[n].pos + v.toInt) (s.bars[n].limit * (s.classOf s.bars[n]).spn) = target) :
    opJog bar v s = (s.setBar n (s.bars[n].startToward (some ramp) target.toNat),
      .only (if target = s.bars[n].pos + v.toInt then .started else .clamped)) := by
  subst clamped
  rw [opJog_still hb hv jog still, hramp, Option.elim_some, if_pos referenced, jogReferenced, if_neg nonzero, if_neg nonzero,
    Int.toNat_natCast]

theorem opReference_range (h : barOf bar = none) : opReference bar s = (s, .only .range) := by
  rw [opReference, h]

/-- REFERENCE's checks of the bar, in their order, and the search. -/
theorem opReference_named (hb : barOf bar = some n) : opReference bar s
    = if s.bars[n].mode ≠ .jog then (s, .only .state)
      else if s.bars[n].busy then (s, .only .busy)
      else if (s.classOf s.bars[n]).state ≠ .valid then (s, .only .state)
      else (s.setBar n (s.bars[n].startSearch ((s.rampOf s.bars[n]).getD []) (s.homeLevel n)), .only .started) := by
  rw [opReference, hb]

theorem opReference_mode (hb : barOf bar = some n) (other : s.bars[n].mode ≠ .jog) :
    opReference bar s = (s, .only .state) := by
  rw [opReference_named hb, if_pos other]

theorem opReference_busy (hb : barOf bar = some n) (jog : s.bars[n].mode = .jog) (moves : s.bars[n].motion ≠ .still) :
    opReference bar s = (s, .only .busy) := by
  rw [opReference_named hb, if_neg (not_not.mpr jog), if_pos (Bar.busy_iff.mpr moves)]

theorem opReference_still (hb : barOf bar = some n) (jog : s.bars[n].mode = .jog) (still : s.bars[n].motion = .still) :
    opReference bar s
      = if (s.classOf s.bars[n]).state ≠ .valid then (s, .only .state)
        else (s.setBar n (s.bars[n].startSearch ((s.rampOf s.bars[n]).getD []) (s.homeLevel n)), .only .started) := by
  rw [opReference_named hb, if_neg (not_not.mpr jog), if_neg (mt Bar.busy_iff.mp (not_not.mpr still))]

theorem opReference_invalid (hb : barOf bar = some n) (jog : s.bars[n].mode = .jog) (still : s.bars[n].motion = .still)
    (invalid : (s.classOf s.bars[n]).state ≠ .valid) : opReference bar s = (s, .only .state) := by
  rw [opReference_still hb jog still, if_pos invalid]

theorem opReference_started (hb : barOf bar = some n) (jog : s.bars[n].mode = .jog) (still : s.bars[n].motion = .still)
    (valid : (s.classOf s.bars[n]).state = .valid) (hramp : s.rampOf s.bars[n] = some ramp) :
    opReference bar s = (s.setBar n (s.bars[n].startSearch ramp (s.homeLevel n)), .only .started) := by
  rw [opReference_still hb jog still, if_neg (not_not.mpr valid), hramp]
  rfl

end

/-! ### The obligation -/

section
variable {s t : State} {env : Envelope} {rep : Reply}

theorem exec_jog (h : s.takesService) (hdata : env.data = []) {bar : Byte} {v : Word}
    (own : opJog bar v { s with ring := s.requestEntered (.jog bar v) env } = (t, rep)) :
    exec (.jog env bar v) s = .next { t with ring := s.ringAnswered (.jog bar v) env rep } :=
  exec_answered_own _ (.jog bar v) rfl h rfl nofun t rep (by rw [hdata]; exact own)

theorem exec_jog_same (h : s.takesService) (hdata : env.data = []) {bar : Byte} {v : Word}
    (own : opJog bar v { s with ring := s.requestEntered (.jog bar v) env }
      = ({ s with ring := s.requestEntered (.jog bar v) env }, rep)) :
    exec (.jog env bar v) s = .next (s.answered (.jog bar v) env rep) :=
  exec_jog (t := { s with ring := s.requestEntered (.jog bar v) env }) h hdata own

/-- REFERENCE samples the home inputs first. -/
theorem exec_reference (h : s.takesService) (hdata : env.data = []) {bar : Byte} {homes : BitVec 16}
    (own : opReference bar { s with homes := homes, ring := s.requestEntered (.reference bar) env } = (t, rep)) :
    exec (.reference env bar homes) s = .next { t with ring := s.ringAnswered (.reference bar) env rep } :=
  exec_answered_as rfl h nofun (by rw [hdata]; exact own)

theorem exec_reference_same (h : s.takesService) (hdata : env.data = []) {bar : Byte} {homes : BitVec 16}
    (own : opReference bar { s with homes := homes, ring := s.requestEntered (.reference bar) env }
      = ({ s with homes := homes, ring := s.requestEntered (.reference bar) env }, rep)) :
    exec (.reference env bar homes) s = .next ({ s with homes := homes }.answered (.reference bar) env rep) :=
  exec_reference (t := { s with homes := homes, ring := s.requestEntered (.reference bar) env }) h hdata own

end

/-- Settles O51: the operations' own rules, in the state with the request entered at the ring port. -/
theorem setupMotionTaken : Obligations.SetupMotionTaken := by
  intro s env index h hdata
  refine ⟨fun v outside => exec_jog_same h hdata (opJog_range (outside.imp barOf_none.mpr stepsOf_none)),
    fun homes outside => exec_reference_same h hdata (opReference_range (barOf_none.mpr outside)), fun n hn => ?_⟩
  have hb : barOf index = some n := barOf_some.mpr hn
  intro b
  refine ⟨fun v ramp low high jog still hramp => ?_,
    fun v low high other => exec_jog_same h hdata (opJog_mode hb (stepsOf_eq low high) other),
    fun v low high jog moves => exec_jog_same h hdata (opJog_busy hb (stepsOf_eq low high) jog moves),
    fun v low high jog still noRamp => exec_jog_same h hdata (opJog_noRamp hb (stepsOf_eq low high) jog still noRamp),
    fun homes ramp jog still valid hramp => ?_,
    fun homes other => exec_reference_same h hdata (opReference_mode hb other),
    fun homes jog moves => exec_reference_same h hdata (opReference_busy hb jog moves),
    fun homes jog still invalid => exec_reference_same h hdata (opReference_invalid hb jog still invalid)⟩
  · have hv := stepsOf_eq low high
    have nonzero : v ≠ 0 → v.toInt ≠ 0 := fun hne hz => hne (BitVec.toInt_inj.mp (hz.trans rfl))
    refine ⟨fun zero => exec_jog_same h hdata (opJog_zero hb hv jog still hramp zero), fun hne unreferenced => ?_,
      fun hne referenced => ?_⟩
    · rw [← Bar.startSteps_unreferenced unreferenced]
      exact exec_jog h hdata (opJog_unreferenced hb hv jog still hramp (nonzero hne) unreferenced)
    · intro top wanted target result
      have clamped : (clampSteps wanted (b.limit * (s.classOf b).spn) : Int) = target := by
        rw [clampSteps_eq, Nat.cast_mul]
      have own := opJog_referenced (s := { s with ring := s.requestEntered (.jog index v) env }) hb hv jog still hramp
        (nonzero hne) referenced clamped
      refine ⟨fun here => exec_jog_same h hdata (own.trans ?_), fun away => ?_⟩
      · have stays : b.startToward (some ramp) target.toNat = b := by
          rw [here, Int.toNat_natCast, Bar.startToward_still still, Bar.giveTarget_here still]
        rw [show _ = b from stays, State.setBar_self]
      · rw [← Bar.startToward_referenced still referenced ramp (clamped ▸ Int.natCast_nonneg _) away]
        exact exec_jog h hdata own
  · intro active
    have level : active = homeActive b.homePol (homes.getLsbD n.val) := (homeActive_eq _ _).symm
    rw [level, ← Bar.startSearch_eq]
    exact exec_reference h hdata (opReference_started hb jog still valid hramp)

end Sys2Proof.Machine

-- ==== Fault and capture records after resets (O7) ====
namespace Sys2Proof.Machine

/-! ### Every record empty -/

/-- With every fault record and the capture record empty and DESYNC clear, no attention flag is set (R170). -/
theorem State.attention_clear {s : State} (node : s.faults.node = none) (bars : ∀ n : BarIx, s.faults.bars[n] = none)
    (capture : s.store.capture = none) (desync : s.node.desync = false) : s.attention = 0 := by
  have noBar : ((List.finRange 16).any fun i => s.faults.bars[i].isSome) = false :=
    List.any_eq_false.mpr fun n _ => by simp [-Fin.getElem_fin, bars n]
  rw [State.attention, node, noBar, capture, desync]
  rfl

theorem opRestart_busy {s : State} (h : (∃ n : BarIx, s.bars[n].motion ≠ .still) ∨ s.engine.commit.isSome) :
    opRestart s = (s, .only .busy) := by
  by_cases moves : anyBar s.bars Bar.busy = true
  · rw [opRestart, if_pos moves]
  · have still : ¬ ∃ n : BarIx, s.bars[n].motion ≠ .still := fun ⟨n, hn⟩ =>
      moves (anyBar_true.mpr ⟨n, Bar.busy_iff.mpr hn⟩)
    rw [opRestart, if_neg moves, if_pos (h.resolve_left still)]

/-- Settles O7: each of the three leaves the records as `Faults.initial` and the store's emptied; a refused RESTART leaves
the state. -/
theorem faultRecordsAfterResets : Obligations.FaultRecordsAfterResets := by
  unfold Obligations.FaultRecordsAfterResets
  intro cleared
  have emptied : ∀ {t : State}, t.faults = .initial → t.store.capture = none → t.store.corrected = 0 →
      t.node.desync = false → cleared t := fun {t} faults capture corrected desync => by
    have node : t.faults.node = none := by rw [faults]; rfl
    have bars : ∀ n : BarIx, t.faults.bars[n] = none := fun n => by rw [faults]; exact Faults.initial_bars n
    exact ⟨node, bars, capture, corrected, desync, fun _ => State.attention_clear node bars capture desync⟩
  refine ⟨fun straps a b homes s => ⟨_, rfl, emptied rfl rfl rfl rfl⟩, fun s => ⟨_, rfl, emptied rfl rfl rfl rfl⟩,
    fun env s h hdata still idle => ?_, fun env s h hdata busy => ?_⟩
  · refine ⟨_, exec_answered_own (.restart env) .restart rfl h rfl nofun
      (State.restarted { s with ring := s.requestEntered .restart env }) (.only .done) ?_, emptied rfl rfl rfl rfl⟩
    rw [hdata, immediateOp_restart]
    exact opRestart_done still idle
  · refine ⟨_, exec_answered_same (.restart env) .restart rfl h rfl nofun (.only .busy) ?_, rfl, rfl, rfl⟩
    rw [hdata, immediateOp_restart]
    exact opRestart_busy busy

end Sys2Proof.Machine

-- ==== GET_STATUS, GET_FAULTS and CLEAR_FAULT (O52) ====
namespace Sys2Proof.Machine

/-- A section or a target above 3 is none of the four that are named (R169, R182). -/
theorem byte_ne_of_four_le {b k : Byte} (h : 4 ≤ b.toNat) (hk : k.toNat < 4) : b ≠ k := fun e =>
  absurd (e ▸ hk) (Nat.not_lt.mpr h)

/-! ### A section by its number and length (R182, R188) -/

theorem opGetStatus_done {s : State} {part bar : Byte} {ws : List Word} {count : Nat}
    (hs : statusSection s part bar = some ws) (hlen : ws.length = count) :
    opGetStatus part bar count s = (s, { result := .done, data := some ws }) := by
  rw [opGetStatus, hs]
  exact if_pos hlen

theorem opGetStatus_range {s : State} {part bar : Byte} {count : Nat}
    (h : ∀ ws, statusSection s part bar = some ws → ws.length ≠ count) :
    opGetStatus part bar count s = (s, .only .range) := by
  rw [opGetStatus]
  cases hs : statusSection s part bar with
  | none => rfl
  | some ws => exact if_neg (h ws hs)

theorem nodeSection_length (s : State) : (nodeSection s).length = 32 := by
  have due : (dueCheckWords s.queue.dueCheck).length = 6 := by cases s.queue.dueCheck <;> rfl
  simp [nodeSection, nodeHeadWords, nodeTailWords, word24, due]

theorem classesSection_length (s : State) : (classesSection s).length = 16 := rfl

theorem barSection_length (s : State) (n : BarIx) : (barSection s n).length = 12 := rfl

theorem currentSection_length (s : State) : (currentSection s).length = 19 := by
  unfold currentSection
  cases s.queue.current <;> rfl

/-- The number of data words a GET_STATUS of a section carries (R188). -/
def sectionLength (part : Byte) : Nat := if part = 0 then 32 else if part = 1 then 16 else if part = 2 then 12 else 19

theorem statusSection_bar {s : State} {bar : Byte} {n : BarIx} (hn : bar.toNat = n.val) :
    statusSection s 2 bar = some (barSection s n) := by
  rw [statusSection, if_neg (by decide), if_neg (by decide), if_pos rfl, barOf_some.mpr hn]
  rfl

theorem statusSection_length {s : State} {part bar : Byte} {ws : List Word} (h : statusSection s part bar = some ws) :
    ws.length = sectionLength part := by
  unfold statusSection at h
  unfold sectionLength
  split_ifs at h ⊢
  · cases h; exact nodeSection_length s
  · cases h; exact classesSection_length s
  · obtain ⟨n, -, rfl⟩ := Option.map_eq_some_iff.mp h
    exact barSection_length s n
  · cases h; exact currentSection_length s

/-- A section number above 3 names no section, and a bar number above 15 no bar (R182). -/
theorem statusSection_none {s : State} {part bar : Byte} (h : 4 ≤ part.toNat ∨ (part = 2 ∧ 16 ≤ bar.toNat)) :
    statusSection s part bar = none := by
  rcases h with h | ⟨rfl, h⟩
  · have other : ∀ k : Byte, k.toNat < 4 → part ≠ k := fun k => byte_ne_of_four_le h
    rw [statusSection, if_neg (other 0 (by decide)), if_neg (other 1 (by decide)), if_neg (other 2 (by decide)),
      if_neg (other 3 (by decide))]
  · rw [statusSection, if_neg (by decide), if_neg (by decide), if_pos rfl, barOf_none.mpr h]
    rfl

/-! ### The governing record (R108) -/

theorem governing_mem {rs : List CourseRecord} {g : CourseRecord} (h : governing rs = some g) : g ∈ rs := by
  induction rs with
  | nil => cases h
  | cons r rest ih =>
    rw [governing] at h
    split at h
    · cases h; exact List.mem_cons_self
    · next g' hg' =>
      split at h
      · cases h; exact List.mem_cons_of_mem _ (ih hg')
      · cases h; exact List.mem_cons_self

theorem governing_head {r : CourseRecord} {after : List CourseRecord} (least : ∀ x ∈ after, r.ceiling ≤ x.ceiling) :
    governing (r :: after) = some r := by
  rw [governing]
  split
  · rfl
  · next g hg => exact if_neg (Nat.not_lt.mpr (least g (governing_mem hg)))

/-- The least ceiling governs, nearest the head among equals. -/
theorem governing_append {before after : List CourseRecord} {r : CourseRecord}
    (above : ∀ x ∈ before, r.ceiling < x.ceiling) (least : ∀ x ∈ after, r.ceiling ≤ x.ceiling) :
    governing (before ++ r :: after) = some r := by
  induction before with
  | nil => exact governing_head least
  | cons b rest ih =>
    obtain ⟨hb, hrest⟩ := List.forall_mem_cons.mp above
    rw [List.cons_append, governing, ih hrest]
    exact if_pos hb

/-- Some record governs as soon as one is pending. -/
theorem governing_isSome (rs : List CourseRecord) : (governing rs).isSome = !rs.isEmpty := by
  cases rs with
  | nil => rfl
  | cons r rest =>
    rw [governing]
    split
    · rfl
    · split <;> rfl

/-- The last two words of section NODE: the governing record's tag and ceiling. -/
def governingWords (rs : List CourseRecord) : List Word :=
  [tagWord ((governing rs).map CourseRecord.tag), word (((governing rs).map CourseRecord.ceiling).getD 0)]

theorem governingWords_of_some {rs : List CourseRecord} {r : CourseRecord} (h : governing rs = some r) :
    governingWords rs = [r.tag, word r.ceiling] := by
  rw [governingWords, h]
  rfl

/-! ### Fields spelled out -/

theorem Queue.ceiling_eq (q : Queue) :
    q.ceiling = ((q.current.toList ++ q.pending).map CourseRecord.ceiling).foldl min 65535 :=
  List.foldl_map.symm

theorem Node.windowsOk_eq (n : Node) :
    n.windowsOk = decide (1 ≤ n.us ∧ n.us + n.ul ≤ n.os ∧ n.os + n.ol ≤ 1439) := by
  rw [Bool.eq_iff_iff, Node.windowsOk_iff, decide_eq_true_iff]

/-! ### Clears (R169) -/

theorem opClearFault_bar {s : State} {bar : Byte} {n : BarIx} (hn : bar.toNat = n.val) :
    opClearFault 1 bar s = ({ s with faults := { s.faults with bars := s.faults.bars.set n none } }, .only .done) := by
  rw [opClearFault, if_neg (by decide), if_pos rfl, barOf_some.mpr hn]

theorem opClearFault_range {s : State} {target bar : Byte} (h : 4 ≤ target.toNat ∨ (target = 1 ∧ 16 ≤ bar.toNat)) :
    opClearFault target bar s = (s, .only .range) := by
  rcases h with h | ⟨rfl, h⟩
  · have other : ∀ k : Byte, k.toNat < 4 → target ≠ k := fun k => byte_ne_of_four_le h
    rw [opClearFault, if_neg (other 0 (by decide)), if_neg (other 1 (by decide)), if_neg (other 2 (by decide)),
      if_neg (other 3 (by decide))]
  · rw [opClearFault, if_neg (by decide), if_pos rfl, barOf_none.mpr h]

/-! ### The requests taken (R168, R169, R182) -/

/-- The state a GET_STATUS reads: the home inputs as sampled, and the request entered at the ring port, which is UP by it. -/
def State.statusAsked (s : State) (part bar : Byte) (env : Envelope) (homes : BitVec 16) : State :=
  { s with homes := homes, ring := s.requestEntered (.getStatus part bar) env }

section
variable {s : State} {env : Envelope} {part bar target : Byte} {homes : BitVec 16} {ws : List Word} {rep : Reply}

theorem exec_getStatus (h : s.takesService)
    (own : opGetStatus part bar env.data.length (s.statusAsked part bar env homes)
      = (s.statusAsked part bar env homes, rep)) :
    exec (.getStatus env part bar homes) s
      = .next (({ s with homes := homes } : State).answered (.getStatus part bar) env rep) :=
  exec_answered_as (op := .getStatus part bar) (s' := s.statusAsked part bar env homes) rfl h nofun own

/-- A section asked for with its length is answered with its words. -/
theorem exec_getStatus_done (h : s.takesService)
    (named : statusSection (s.statusAsked part bar env homes) part bar = some ws) (hlen : ws.length = env.data.length) :
    exec (.getStatus env part bar homes) s
      = .next (({ s with homes := homes } : State).answered (.getStatus part bar) env
          { result := .done, data := some ws }) :=
  exec_getStatus h (opGetStatus_done named hlen)

/-- No section named, or another count than its length (R182). -/
theorem exec_getStatus_range (h : s.takesService)
    (bad : (4 ≤ part.toNat ∨ (part = 2 ∧ 16 ≤ bar.toNat)) ∨ env.data.length ≠ sectionLength part) :
    exec (.getStatus env part bar homes) s
      = .next (({ s with homes := homes } : State).answered (.getStatus part bar) env (.only .range)) := by
  refine exec_getStatus h (opGetStatus_range fun ws named hlen => ?_)
  rcases bad with missing | wrong
  · rw [statusSection_none missing] at named
    cases named
  · exact wrong (hlen.symm.trans (statusSection_length named))

theorem exec_getFaults (h : s.takesService)
    (own : opGetFaults env.data.length { s with ring := s.requestEntered .getFaults env }
      = ({ s with ring := s.requestEntered .getFaults env }, rep)) :
    exec (.getFaults env) s = .next (s.answered .getFaults env rep) :=
  exec_answered_same _ .getFaults rfl h rfl nofun rep own

/-- CLEAR_FAULT carries no data. -/
theorem exec_clearFault (h : s.takesService) (hdata : env.data = []) {t : State}
    (own : opClearFault target bar { s with ring := s.requestEntered (.clearFault target bar) env } = (t, rep)) :
    exec (.clearFault env target bar) s = .next { t with ring := s.ringAnswered (.clearFault target bar) env rep } :=
  exec_answered_own _ (.clearFault target bar) rfl h rfl nofun t rep (by rw [hdata]; exact own)

theorem exec_clearFault_range (h : s.takesService) (hdata : env.data = [])
    (bad : 4 ≤ target.toNat ∨ (target = 1 ∧ 16 ≤ bar.toNat)) :
    exec (.clearFault env target bar) s = .next (s.answered (.clearFault target bar) env (.only .range)) :=
  exec_clearFault (t := { s with ring := s.requestEntered (.clearFault target bar) env }) h hdata (opClearFault_range bad)

end

/-! ### The obligation -/

/-- Settles O52: each report by the words of its layout, which agree with the model's field by field, and each clear by its
operation's own rule. -/
theorem reportsAndClears : Obligations.ReportsAndClears := by
  intro s env h w bit tagOr0 q nodeState dir speed ceiling node classes barWords current nodeFault capture barFaults
  have nodeWords : ∀ bar homes, nodeSection (s.statusAsked 0 bar env homes) = node ++ governingWords q.pending := by
    intro bar homes
    have least : s.queue.ceiling = ceiling := s.queue.ceiling_eq
    clear_value ceiling
    simp only [State.statusAsked, nodeSection, nodeHeadWords, nodeTailWords, Queue.correctedHeld, Queue.held,
      State.currentTag, governing_isSome, least]
    rcases due : s.queue.dueCheck with _ | d <;> rcases cur : s.queue.current with _ | r
    all_goals
      simp only [node, q, due, cur]
      rfl
  have classesWords : classesSection s = classes := by
    refine List.flatMap_congr fun c _ => ?_
    simp only [classWords, lookupTime]
    cases s.engine.classes[c].table <;> rfl
  have barSectionWords : ∀ homes n, barSection { s with homes := homes } n = barWords n homes := by
    intro homes n
    simp only [barSection, Node.windowsOk_eq, barWords]
    cases s.bars[n].motion <;> rfl
  have currentWords : currentSection s = current := rfl
  have nodeFormWords : nodeForm s = nodeFault ++ capture ++ [w s.store.corrected] := rfl
  have barFormWords : barForm s = barFaults := rfl
  refine ⟨fun part bar homes => ⟨?_, ?_, ?_, ?_, fun bad => exec_getStatus_range h (or_assoc.mpr bad)⟩,
    fun six => ?_, fun thirtyTwo => ?_, fun six thirtyTwo => exec_getFaults h ((if_neg six).trans (if_neg thirtyTwo)),
    fun target bar hdata => ⟨?_, ?_, ?_, ?_, exec_clearFault_range h hdata⟩⟩
  · rintro rfl hlen
    refine ⟨governingWords q.pending, ?_, fun empty => ?_, fun before r after pending above least => ?_⟩
    · rw [← nodeWords bar homes]
      exact exec_getStatus_done h rfl ((nodeSection_length _).trans hlen.symm)
    · rw [empty]
      rfl
    · rw [pending]
      exact governingWords_of_some (governing_append above least)
  · rintro rfl hlen
    rw [← classesWords]
    exact exec_getStatus_done h rfl hlen.symm
  · rintro n rfl hn hlen
    rw [← barSectionWords]
    exact exec_getStatus_done h (statusSection_bar hn) hlen.symm
  · rintro rfl hlen
    rw [← currentWords]
    exact exec_getStatus_done h rfl ((currentSection_length _).trans hlen.symm)
  · rw [← nodeFormWords]
    exact exec_getFaults h (if_pos six)
  · rw [← barFormWords]
    exact exec_getFaults h ((if_neg (by omega)).trans (if_pos thirtyTwo))
  · rintro rfl
    exact exec_clearFault h hdata rfl
  · rintro n rfl hn
    exact exec_clearFault h hdata (opClearFault_bar hn)
  · rintro rfl
    exact exec_clearFault h hdata rfl
  · rintro rfl
    exact ⟨_, exec_clearFault h hdata rfl, rfl, Faults.initial_bars⟩

end Sys2Proof.Machine

-- ==== The forwarding order and the ring found lost (O40) ====
namespace Sys2Proof.Machine

/-! ### The forwarding store (R175) -/

/-- A frame whose content is known, in its place in the forwarding store: its ticket, the characters received and those it is
sent as. -/
def Forward.known (e : Nat × List Byte × List Byte) : Forward := { ticket := e.1, received := e.2.1, chars := some e.2.2 }

/-- A held frame at the front sends nothing. -/
theorem flushReady_held {first : Forward} (h : first.chars = none) (rest : List Forward) :
    flushReady (first :: rest) = ([], first :: rest) := by
  obtain ⟨ticket, received, chars⟩ := first
  subst h
  rfl

/-- The frames known at the front are sent, up to the first held one. -/
theorem flushReady_known (known : List (Nat × List Byte × List Byte)) {later : List Forward}
    (h : ∀ e ∈ later.head?, e.chars = none) :
    flushReady (known.map Forward.known ++ later) = (known.map fun e => e.2.2, later) := by
  induction known with
  | nil =>
    cases later with
    | nil => rfl
    | cons e rest => exact flushReady_held (h e rfl) rest
  | cons e rest ih =>
    show (e.2.2 :: (flushReady (rest.map Forward.known ++ later)).1, (flushReady (rest.map Forward.known ++ later)).2) = _
    rw [ih]
    rfl

/-- Known content is written in the frame of its own ticket alone. -/
theorem map_fill_other {l : List Forward} {ticket : Nat} (h : ∀ e ∈ l, e.ticket ≠ ticket) (chars : List Byte) :
    (l.map fun e => if e.ticket = ticket then { e with chars := some chars } else e) = l :=
  (List.map_congr_left fun e he => if_neg (h e he)).trans l.map_id'

/-- The forwarding store once the content of one of its frames is known, before anything is sent. -/
theorem map_fill {ahead behind : List Forward} {held : Forward} (ha : ∀ e ∈ ahead, e.ticket ≠ held.ticket)
    (hb : ∀ e ∈ behind, e.ticket ≠ held.ticket) (chars : List Byte) :
    ((ahead ++ held :: behind).map fun e => if e.ticket = held.ticket then { e with chars := some chars } else e)
      = ahead ++ { held with chars := some chars } :: behind := by
  rw [List.map_append, List.map_cons, map_fill_other ha, map_fill_other hb, if_pos rfl]

/-- A release fills in the content of its frame and sends what is known at the front. -/
theorem Ring.release_filled {r : Ring} {ahead behind : List Forward} {held : Forward}
    (h : r.forwarding = ahead ++ held :: behind) (ha : ∀ e ∈ ahead, e.ticket ≠ held.ticket)
    (hb : ∀ e ∈ behind, e.ticket ≠ held.ticket) (chars : List Byte) {sent : List (List Byte)} {left : List Forward}
    (flushed : flushReady (ahead ++ { held with chars := some chars } :: behind) = (sent, left)) :
    r.release held.ticket chars = { r with forwarding := left, sent := r.sent ++ sent } := by
  have filled := map_fill ha hb chars
  unfold Ring.release
  simp only []
  rw [h, filled, flushed]

/-- Behind a held frame a frame whose content becomes known stays. -/
theorem Ring.release_behind {r : Ring} {first held : Forward} {ahead behind : List Forward}
    (h : r.forwarding = first :: ahead ++ held :: behind) (hfirst : first.chars = none)
    (ht : ∀ e ∈ first :: ahead ++ behind, e.ticket ≠ held.ticket) (chars : List Byte) :
    r.release held.ticket chars
      = { r with forwarding := first :: ahead ++ { held with chars := some chars } :: behind } := by
  have kept := Ring.release_filled h (fun e he => ht e (List.mem_append_left _ he))
    (fun e he => ht e (List.mem_append_right _ he)) chars (flushReady_held hfirst _)
  rwa [List.append_nil] at kept

/-- At the front it is sent, with those known behind it, up to the next held one. -/
theorem Ring.release_front {r : Ring} {held : Forward} {known : List (Nat × List Byte × List Byte)} {later : List Forward}
    (h : r.forwarding = held :: known.map Forward.known ++ later) (hknown : ∀ e ∈ known, e.1 ≠ held.ticket)
    (hlater : ∀ e ∈ later, e.ticket ≠ held.ticket) (hnext : ∀ e ∈ later.head?, e.chars = none) (chars : List Byte) :
    r.release held.ticket chars = { r with
      forwarding := later
      sent := r.sent ++ chars :: known.map fun e => e.2.2 } := by
  have others : ∀ e ∈ known.map Forward.known ++ later, e.ticket ≠ held.ticket := by
    intro e he
    rcases List.mem_append.mp he with he | he
    · obtain ⟨k, hk, rfl⟩ := List.mem_map.mp he
      exact hknown k hk
    · exact hlater e he
  exact Ring.release_filled (ahead := []) h nofun others chars
    (flushReady_known ((held.ticket, held.received, chars) :: known) hnext)

/-! ### A frame passed on (R176, R179, R183) -/

theorem addressedTo_false {r : Ring} {f : ServiceFrame} (h : f.reply = true ∨ f.dest.toNat ≠ r.straps.toNat + 1) :
    addressedTo r f = false := by
  rcases h with h | h
  · simp [addressedTo, h]
  · simp [addressedTo, Ring.address, h]

/-- A clean service frame that is no request for this node enters the forwarding store and is known at once. -/
theorem exec_serviceFramePass {s : State} {f : ServiceFrame} (active : s.inReset = false)
    (h : f.reply = true ∨ f.dest.toNat ≠ s.ring.straps.toNat + 1) :
    exec (.serviceFramePass f) s = .next { s with
      ring := (s.ringEntered (cleanFrameOf (serviceBody f))).release s.ring.nextTicket (cleanFrameOf (serviceBody f)) } := by
  show Host.Outcome.next (s.serviceFrame f) = _
  rw [State.serviceFrame, if_neg (by simp [active]), if_neg (by simp [addressedTo_false h])]
  rfl

/-! ### The ring lost (R166, R183) -/

/-- The state in which the ring has been found lost, with RING_LOST reported. -/
theorem State.ringLost_eq (s : State) :
    s.ringLost = { s with
      ring := { s.ring with up := false, silence := none }
      faults := { s.faults with node := s.nodeRecord .ringLost s.currentTag s.tracker.angle } } := by
  rw [State.nodeRecord_eq]
  rfl

theorem exec_ringBreak_up {s : State} (active : s.inReset = false) (up : s.ring.up = true) :
    exec .ringBreak s = .next s.ringLost := congrArg Host.Outcome.next (if_pos ⟨up, active⟩)

theorem exec_ringBreak_lost {s : State} (lost : s.ring.up = false) : exec .ringBreak s = .next s :=
  congrArg Host.Outcome.next (if_neg fun h => by rw [lost] at h; exact absurd h.1 nofun)

theorem exec_ringSilence_running {s : State} (active : s.inReset = false) {k : Nat} (watch : s.ring.silence = some k) :
    exec .ringSilence s = .next s.ringLost := congrArg Host.Outcome.next (if_pos ⟨by rw [watch]; rfl, active⟩)

theorem exec_ringSilence_stopped {s : State} (stopped : s.ring.silence = none) : exec .ringSilence s = .next s :=
  congrArg Host.Outcome.next (if_neg fun h => by rw [stopped] at h; exact absurd h.1 nofun)

/-! ### The obligation -/

/-- Settles O40: a frame passed on is an entry and a release of the forwarding store, and the two laws of a release say what
is sent. -/
theorem passedFramesAndRingLost : Obligations.PassedFramesAndRingLost := by
  refine ⟨fun s f active h => ⟨_, exec_serviceFramePass active h, rfl, rfl, rfl, fun empty => ?_⟩,
    fun s active up => (exec_ringBreak_up active up).trans (congrArg _ s.ringLost_eq),
    fun s k active watch => (exec_ringSilence_running active watch).trans (congrArg _ s.ringLost_eq),
    fun s lost => exec_ringBreak_lost lost, fun s stopped => exec_ringSilence_stopped stopped,
    fun s f first rest active h hf hfirst ht => ?_,
    fun r first held ahead behind chars hf hfirst ht => Ring.release_behind hf hfirst ht chars,
    fun r held known later chars hf hk hl hn => Ring.release_front hf hk hl hn chars⟩
  · have entered : (s.ringEntered (cleanFrameOf (serviceBody f))).forwarding
        = ⟨s.ring.nextTicket, cleanFrameOf (serviceBody f), none⟩ :: ([] : List (Nat × _)).map Forward.known ++ [] :=
      congrArg (· ++ _) empty
    have sent := Ring.release_front entered nofun nofun nofun (cleanFrameOf (serviceBody f))
    exact ⟨congrArg Ring.forwarding sent, congrArg Ring.sent sent⟩
  · have entered : (s.ringEntered (cleanFrameOf (serviceBody f))).forwarding
        = first :: rest ++ ⟨s.ring.nextTicket, cleanFrameOf (serviceBody f), none⟩ :: [] :=
      congrArg (· ++ _) hf
    have kept := Ring.release_behind entered hfirst (by rwa [List.append_nil, ← hf]) (cleanFrameOf (serviceBody f))
    have sent := congrArg Ring.sent kept
    have forwarding := congrArg Ring.forwarding kept
    rw [← hf] at forwarding
    exact ⟨_, exec_serviceFramePass active h, sent, forwarding⟩

end Sys2Proof.Machine

-- ==== Frames as characters and back (O41) ====
namespace Sys2Proof.Machine

/-! ### A clean frame's characters (R173, R174) -/

theorem received_values (cs : List Byte) : (received cs).map RxChar.value = cs := by
  simp [received, Function.comp_def]

theorem received_stopOk (cs : List Byte) : (received cs).all RxChar.stopOk = true := by
  simp [received]

theorem cleanFrameOf_length (body : List Byte) : (cleanFrameOf body).length = body.length + 4 := by
  simp [cleanFrameOf, frameOf]

/-- The characters after the start are those of the body, as far as it reaches. -/
theorem cleanFrameOf_getElem? {body : List Byte} {i : Nat} (h : i < body.length) :
    (cleanFrameOf body)[i + 1]? = body[i]? := by
  simp only [cleanFrameOf, frameOf, List.cons_append, List.getElem?_cons_succ]
  exact List.getElem?_append_left h

theorem bodyOf_cleanFrameOf (body : List Byte) : bodyOf (cleanFrameOf body) = body := by
  rw [bodyOf, cleanFrameOf_length, Nat.add_sub_cancel]
  exact List.take_left

/-- The last three characters are the CRC and the mark. -/
theorem cleanFrameOf_check (body : List Byte) :
    (cleanFrameOf body).drop ((cleanFrameOf body).length - 3) = [hiByte (crc body), loByte (crc body), markClean] := by
  have split : (cleanFrameOf body).length - 3 = (startChar :: body).length := by
    rw [cleanFrameOf_length, List.length_cons]
    omega
  rw [split]
  exact List.drop_left

/-- Characters that begin a frame of a known kind and are as many as its computed length are judged whole. -/
theorem judge_received {cs : List Byte} {kind : Byte} (hstart : cs[0]? = some startChar) (hkind : cs[1]? = some kind)
    (known : kindKnown kind = true) (length : computedLength cs = some cs.length) :
    judge (received cs) = judgeWhole cs := by
  cases cs with
  | nil => exact absurd hstart nofun
  | cons first rest =>
    obtain rfl : first = startChar := Option.some.inj hstart
    have values := received_values (startChar :: rest)
    have stops := received_stopOk (startChar :: rest)
    rw [received, List.map_cons] at values stops ⊢
    simp only [judge, values, stops, hkind, known, length]
    simp

/-- A body whose count and kind agree with its length, sent clean, is judged clean (R173, R174). -/
theorem judge_cleanFrameOf {body : List Byte} {kind : Byte} (hkind : body[0]? = some kind) (known : kindKnown kind = true)
    (length : computedLength (cleanFrameOf body) = some (cleanFrameOf body).length)
    (count : kind ≠ kindCourse → ((cleanFrameOf body).getD 11 0).toNat ≤ 32) :
    judge (received (cleanFrameOf body))
      = if kind = kindCourse then .cleanCourse (parseCourse body) else .cleanService (parseService body) := by
  have nonempty : 0 < body.length := (List.getElem?_eq_some_iff.mp hkind).1
  have kindAt : (cleanFrameOf body)[1]? = some kind := (cleanFrameOf_getElem? nonempty).trans hkind
  rw [judge_received rfl kindAt known length, judgeWhole, bodyOf_cleanFrameOf, cleanFrameOf_check,
    getD_of_getElem? kindAt, if_neg fun h => Nat.not_lt.mpr (count h.1) h.2]
  show (if markClean ≠ markClean then _ else if wordOf (hiByte (crc body)) (loByte (crc body)) ≠ crc body then _ else _) = _
  rw [if_neg (not_not.mpr rfl), if_neg (not_not.mpr (wordOf_bytes _))]

/-! ### Course frames (12.1) -/

theorem overrideBytes_length (os : List Override) : (os.flatMap overrideBytes).length = 3 * os.length := by
  induction os with
  | nil => rfl
  | cons o rest ih =>
    simp only [List.flatMap_cons, List.length_append, ih, List.length_cons, overrideBytes, List.length_nil]
    omega

theorem slotBytes_length (xs : List Slot) : (xs.flatMap slotBytes).length = 6 * xs.length := by
  induction xs with
  | nil => rfl
  | cons x rest ih =>
    simp only [List.flatMap_cons, List.length_append, ih, List.length_cons, slotBytes, List.length_nil]
    omega

theorem parseOverrides_overrideBytes (os : List Override) (rest : List Byte) :
    parseOverrides os.length (os.flatMap overrideBytes ++ rest) = os := by
  induction os with
  | nil => rfl
  | cons o os ih => exact congrArg (o :: ·) ih

/-- Six characters on, the slots' characters are those of the next slot. -/
theorem parseSlot_cons (x : Slot) (cs : List Byte) (k : Nat) : parseSlot (slotBytes x ++ cs) (k + 1) = parseSlot cs k := by
  have next : ∀ j, (slotBytes x ++ cs).getD (6 * (k + 1) + j) 0 = cs.getD (6 * k + j) 0 := fun j => by
    rw [show 6 * (k + 1) + j = 6 * k + j + 6 by omega]
    rfl
  simp only [parseSlot, next]

theorem parseSlot_slotBytes {xs : List Slot} {k : Nat} {x : Slot} (h : xs[k]? = some x) :
    parseSlot (xs.flatMap slotBytes) k = x := by
  induction xs generalizing k with
  | nil => exact absurd h nofun
  | cons y rest ih =>
    rw [List.flatMap_cons]
    cases k with
    | zero =>
      obtain rfl : y = x := Option.some.inj h
      rfl
    | succ k => exact (parseSlot_cons y _ k).trans (ih h)

theorem courseBody_length (f : CourseFrame) : (courseBody f).length = 55 + 3 * f.overrides.length := by
  simp only [courseBody, List.length_append, overrideBytes_length, slotBytes_length, Vector.length_toList, List.length_cons,
    List.length_nil]
  omega

theorem overrideCount_toNat {f : CourseFrame} (h : f.wf = true) :
    (BitVec.ofNat 8 f.overrides.length).toNat = f.overrides.length := by
  have : f.overrides.length ≤ 255 := of_decide_eq_true h
  rw [BitVec.toNat_ofNat, Nat.mod_eq_of_lt (by omega)]

/-- A course frame is read back from its characters (R173, 12.1). -/
theorem parseCourse_courseBody {f : CourseFrame} (h : f.wf = true) : parseCourse (courseBody f) = f := by
  have overrides : parseOverrides (BitVec.ofNat 8 f.overrides.length).toNat ((courseBody f).drop 7) = f.overrides := by
    rw [overrideCount_toNat h]
    exact parseOverrides_overrideBytes f.overrides _
  have rest : (courseBody f).drop (7 + 3 * (BitVec.ofNat 8 f.overrides.length).toNat) = f.slots.toList.flatMap slotBytes := by
    rw [overrideCount_toNat h, ← overrideBytes_length, ← List.drop_drop]
    exact List.drop_left
  have slots : (Vector.ofFn fun k : Fin 8 => parseSlot
      ((courseBody f).drop (7 + 3 * (BitVec.ofNat 8 f.overrides.length).toNat)) k.val) = f.slots := by
    ext1 i hi
    rw [Vector.getElem_ofFn, rest]
    exact parseSlot_slotBytes (by simp [hi])
  have tag := wordOf_bytes f.tag
  have row := wordOf_bytes f.row
  calc parseCourse (courseBody f)
      = { tag := wordOf (hiByte f.tag) (loByte f.tag), row := wordOf (hiByte f.row) (loByte f.row), bank := f.bank
          overrides := parseOverrides (BitVec.ofNat 8 f.overrides.length).toNat ((courseBody f).drop 7)
          slots := Vector.ofFn fun k : Fin 8 => parseSlot
            ((courseBody f).drop (7 + 3 * (BitVec.ofNat 8 f.overrides.length).toNat)) k.val } := rfl
    _ = f := by rw [tag, row, overrides, slots]

/-- The computed length of a course frame's characters is their number (R173). -/
theorem computedLength_course {f : CourseFrame} (h : f.wf = true) :
    computedLength (cleanFrameOf (courseBody f)) = some (cleanFrameOf (courseBody f)).length := by
  have length : computedLength (cleanFrameOf (courseBody f))
      = some (59 + 3 * (BitVec.ofNat 8 f.overrides.length).toNat) := rfl
  rw [length, overrideCount_toNat h, cleanFrameOf_length, courseBody_length]
  congr 1
  omega

theorem judge_courseFrame {f : CourseFrame} (h : f.wf = true) :
    judge (received (cleanFrameOf (courseBody f))) = .cleanCourse f := by
  rw [judge_cleanFrameOf (kind := kindCourse) rfl rfl (computedLength_course h) (absurd rfl), if_pos rfl,
    parseCourse_courseBody h]

/-! ### Service frames (12.2) -/

theorem dataBytes_length (ws : List Word) : (dataBytes ws).length = 2 * ws.length := by
  induction ws with
  | nil => rfl
  | cons w rest ih =>
    show (dataBytes rest).length + 1 + 1 = _
    rw [ih, List.length_cons]
    omega

theorem parseWords_dataBytes (ws : List Word) (rest : List Byte) : parseWords ws.length (dataBytes ws ++ rest) = ws := by
  induction ws with
  | nil => rfl
  | cons w ws ih =>
    show wordOf (hiByte w) (loByte w) :: parseWords ws.length (dataBytes ws ++ rest) = _
    rw [wordOf_bytes, ih]

theorem serviceBody_length (f : ServiceFrame) : (serviceBody f).length = 12 + 2 * f.data.length := by
  simp only [serviceBody, List.length_append, dataBytes_length, argBytes, List.length_cons, List.length_nil]
  omega

theorem dataCount_toNat {f : ServiceFrame} (h : f.wf = true) : (BitVec.ofNat 8 f.data.length).toNat = f.data.length := by
  have : f.data.length ≤ 32 := of_decide_eq_true h
  rw [BitVec.toNat_ofNat, Nat.mod_eq_of_lt (by omega)]

/-- A service frame is read back from its characters (R173, 12.2). -/
theorem parseService_serviceBody {f : ServiceFrame} (h : f.wf = true) : parseService (serviceBody f) = f := by
  have data : parseWords (BitVec.ofNat 8 f.data.length).toNat ((serviceBody f).drop 11) = f.data := by
    rw [dataCount_toNat h]
    exact parseWords_dataBytes f.data [f.slot]
  have slot : (serviceBody f).getD (11 + 2 * (BitVec.ofNat 8 f.data.length).toNat) 0 = f.slot := by
    rw [dataCount_toNat h, ← getD_drop, ← dataBytes_length]
    show (dataBytes f.data ++ [f.slot]).getD (dataBytes f.data).length 0 = f.slot
    simp
  have kind : ((if f.reply then kindReply else kindRequest) == kindReply) = f.reply := by cases f.reply <;> rfl
  calc parseService (serviceBody f)
      = { reply := (if f.reply then kindReply else kindRequest) == kindReply, dest := f.dest, seq := f.seq, op := f.op
          args := f.args, data := parseWords (BitVec.ofNat 8 f.data.length).toNat ((serviceBody f).drop 11)
          slot := (serviceBody f).getD (11 + 2 * (BitVec.ofNat 8 f.data.length).toNat) 0 } := rfl
    _ = f := by rw [kind, data, slot]

/-- The computed length of a service frame's characters is their number (R173). -/
theorem computedLength_service {f : ServiceFrame} (h : f.wf = true) :
    computedLength (cleanFrameOf (serviceBody f)) = some (cleanFrameOf (serviceBody f)).length := by
  have length : computedLength (cleanFrameOf (serviceBody f)) = some (16 + 2 * (BitVec.ofNat 8 f.data.length).toNat) := by
    obtain ⟨reply, _⟩ := f
    cases reply <;> rfl
  rw [length, dataCount_toNat h, cleanFrameOf_length, serviceBody_length]
  congr 1
  omega

theorem judge_serviceFrame {f : ServiceFrame} (h : f.wf = true) :
    judge (received (cleanFrameOf (serviceBody f))) = .cleanService f := by
  have known : kindKnown (if f.reply then kindReply else kindRequest) = true := by cases f.reply <;> rfl
  have service : (if f.reply then kindReply else kindRequest) ≠ kindCourse := by cases f.reply <;> decide
  have count : ((cleanFrameOf (serviceBody f)).getD 11 0).toNat ≤ 32 := by
    show (BitVec.ofNat 8 f.data.length).toNat ≤ 32
    rw [dataCount_toNat h]
    exact of_decide_eq_true h
  rw [judge_cleanFrameOf rfl known (computedLength_service h) fun _ => count, if_neg service, parseService_serviceBody h]

/-- Settles O41: both layouts are read back from their characters, whose number is the computed length. -/
theorem framesRoundTrip : Obligations.FramesRoundTrip :=
  ⟨fun _ => judge_courseFrame, fun _ => judge_serviceFrame⟩

end Sys2Proof.Machine

-- ==== Requests and replies as characters (O42) ====
namespace Sys2Proof.Machine

/-! ### Bytes of a field (R185, R186) -/

theorem hiByte_eq (w : Word) : hiByte w = BitVec.ofNat 8 (w.toNat / 256) := by
  rw [← hiByte_toNat, BitVec.ofNat_toNat, BitVec.setWidth_eq]

theorem loByte_eq (w : Word) : loByte w = BitVec.ofNat 8 (w.toNat % 256) := by
  rw [← loByte_toNat, BitVec.ofNat_toNat, BitVec.setWidth_eq]

/-- A start address is read back from its three bytes (R186). -/
theorem word24Of_bytes (a : BitVec 24) :
    word24Of (a.extractLsb' 16 8) (a.extractLsb' 8 8) (a.extractLsb' 0 8) = a := by
  have := a.isLt
  apply BitVec.eq_of_toNat_eq
  simp only [word24Of_toNat, BitVec.extractLsb'_toNat, Nat.shiftRight_eq_div_pow]
  omega

/-- The bytes of a start address and a count, by their values (R186). -/
theorem rangeArgs_eq (start : BitVec 24) (count : Byte) (spare : Args) :
    rangeArgs start count spare = { spare with
      a0 := BitVec.ofNat 8 (start.toNat / 65536), a1 := BitVec.ofNat 8 (start.toNat / 256 % 256),
      a2 := BitVec.ofNat 8 (start.toNat % 256), a3 := count } := by
  have := start.isLt
  have byte : ∀ k n, start.toNat / 2 ^ k % 2 ^ 8 = n % 2 ^ 8 → start.extractLsb' k 8 = BitVec.ofNat 8 n := fun k n h => by
    apply BitVec.eq_of_toNat_eq
    rw [BitVec.extractLsb'_toNat, Nat.shiftRight_eq_div_pow, BitVec.toNat_ofNat, h]
  rw [rangeArgs, byte 16 (start.toNat / 65536) (by omega), byte 8 (start.toNat / 256 % 256) (by omega),
    byte 0 (start.toNat % 256) (by omega)]

theorem nodeParamArgs_eq (identity : Byte) (v : Word) (spare : Args) :
    nodeParamArgs identity v spare = { spare with
      a0 := identity, a2 := BitVec.ofNat 8 (v.toNat / 256), a3 := BitVec.ofNat 8 (v.toNat % 256) } := by
  rw [nodeParamArgs, hiByte_eq, loByte_eq]

theorem indexedParamArgs_eq (identity index : Byte) (v : Word) (spare : Args) :
    indexedParamArgs identity index v spare = { spare with
      a0 := identity, a1 := index, a2 := BitVec.ofNat 8 (v.toNat / 256), a3 := BitVec.ofNat 8 (v.toNat % 256) } := by
  rw [indexedParamArgs, hiByte_eq, loByte_eq]

/-! ### An operation read back from its bytes (12.2, 12.5) -/

theorem decodeSetParam_unknown {identity : Byte} (h : knownIdentity identity = false) (index : Byte) (v : Word) (spare : Args) :
    decodeSetParam (indexedParamArgs identity index v spare) = .unknownParameter identity index v := by
  have other : ∀ k : Byte, knownIdentity k = true → identity ≠ k := fun k hk e => by
    rw [e, hk] at h
    exact absurd h nofun
  unfold decodeSetParam
  simp only [indexedParamArgs, wordOf_bytes]
  repeat rw [if_neg (other _ (by decide))]

theorem decodeOp_unknown {op : Byte} (h : opUnknown op = true) (a : Args) : decodeOp op a = .unknownOp op := by
  have other : ∀ k : Byte, opUnknown k = false → op ≠ k := fun k hk e => by
    rw [e, hk] at h
    exact absurd h nofun
  unfold decodeOp
  repeat rw [if_neg (other _ (by decide))]

/-- Every well-formed operation is read back from its op and its argument block, whatever the spare bytes. -/
theorem decodeOp_argsOf {op : ServiceOp} (h : op.wf = true) (spare : Args) : decodeOp (opByte op) (argsOf op spare) = op := by
  have word := wordOf_bytes
  cases op with
  | load start count => exact congrArg (ServiceOp.load · count) (word24Of_bytes start)
  | read start count => exact congrArg (ServiceOp.read · count) (word24Of_bytes start)
  | setRowCount bank v => cases bank <;> exact congrArg _ (word v)
  | setWindow w v => cases w <;> exact congrArg _ (word v)
  | unknownParameter identity index v => exact decodeSetParam_unknown (by simpa [ServiceOp.wf] using h) index v spare
  | unknownOp b => exact decodeOp_unknown h spare
  | setMargin v | setStandstillTimeout v | setGuardEnable v | setDiagnosticCheckMode v | setDiagnosticCheckValue v
  | setStepsPerNeedle _ v | setRampLength _ v | setMode _ v | setClass _ v | setLapSet _ v | setTravelLimit _ v
  | setTrim _ v | setHomePosition _ v | setHomePolarity _ v | arm v | jog _ v => exact congrArg _ (word v)
  | _ => rfl

/-! ### A request taken from its characters (R179) -/

/-- A request frame received by the node of its address is taken as the request it carries; while the reset input is active
neither is taken. -/
theorem exec_requestFrame {op : ServiceOp} {env : Envelope} (hop : op.wf = true) (henv : env.wf = true) (s : State) :
    exec (.corruptFrame (received (cleanFrameOf (serviceBody
        (requestFrame (BitVec.ofNat 8 (s.ring.straps.toNat + 1)) op env))))) s
      = .next (s.serviceRequest op { env with spare := argsOf op env.spare }) := by
  have address : (BitVec.ofNat 8 (s.ring.straps.toNat + 1)).toNat = s.ring.straps.toNat + 1 := by
    have := s.ring.straps.isLt
    rw [BitVec.toNat_ofNat, Nat.mod_eq_of_lt (by omega)]
  have addressed : addressedTo s.ring (requestFrame (BitVec.ofNat 8 (s.ring.straps.toNat + 1)) op env) = true :=
    beq_iff_eq.mpr address
  have clean := judge_serviceFrame (f := requestFrame (BitVec.ofNat 8 (s.ring.straps.toNat + 1)) op env) henv
  show Host.Outcome.next (s.receive _) = _
  congr 1
  cases active : s.inReset with
  | true => rw [State.receive, State.serviceRequest, if_pos active, if_pos active]
  | false =>
    rw [State.receive, if_neg (by simp [active]), clean]
    show s.serviceFrame _ = _
    rw [State.serviceFrame, if_neg (by simp [active]), if_pos addressed]
    exact congrArg (s.serviceRequest · { env with spare := argsOf op env.spare }) (decodeOp_argsOf hop env.spare)

/-! ### A reply's characters (R176, R179, R180) -/

theorem dataBytes_eq (ws : List Word) :
    dataBytes ws = ws.flatMap fun w => [BitVec.ofNat 8 (w.toNat / 256), BitVec.ofNat 8 (w.toNat % 256)] := by
  simp only [dataBytes, hiByte_eq, loByte_eq]

theorem Reply.frame_wf {rep : Reply} {env : Envelope} (h : env.data.length ≤ 32)
    (hr : ∀ ws, rep.data = some ws → ws.length ≤ 32) (address : Nat) (op : ServiceOp) :
    (rep.frame address op env).wf = true := by
  refine decide_eq_true (?_ : (rep.data.getD env.data).length ≤ 32)
  cases hd : rep.data with
  | none => exact h
  | some ws => exact hr ws hd

/-- The characters of a clean reply, by its fields (R173, 12.2). -/
theorem cleanReply_chars (f : ServiceFrame) (h : f.reply = true) :
    ∃ hi lo : Byte, cleanFrameOf (serviceBody f)
      = [165, 3, f.dest, f.seq, f.op, f.args.a0, f.args.a1, f.args.a2, f.args.a3, f.args.a4, f.args.a5,
          BitVec.ofNat 8 f.data.length]
        ++ f.data.flatMap (fun w => [BitVec.ofNat 8 (w.toNat / 256), BitVec.ofNat 8 (w.toNat % 256)])
        ++ [f.slot, hi, lo, 0] := by
  refine ⟨hiByte (crc (serviceBody f)), loByte (crc (serviceBody f)), ?_⟩
  rw [← dataBytes_eq]
  have body : serviceBody f = [3, f.dest, f.seq, f.op, f.args.a0, f.args.a1, f.args.a2, f.args.a3, f.args.a4, f.args.a5,
      BitVec.ofNat 8 f.data.length] ++ dataBytes f.data ++ [f.slot] := by
    rw [serviceBody, if_pos h]
    rfl
  rw [cleanFrameOf, frameOf]
  generalize crc (serviceBody f) = check
  rw [body]
  simp [startChar, markClean]

/-! ### The obligation -/

/-- Settles O42: the bytes of each operation are those of the tables and are read back; a reply is a service frame whose
fields are those the rule names. -/
theorem requestsRoundTrip : Obligations.RequestsRoundTrip := by
  intro op env high low opCode from24 param unread block
  have code : opByte op = opCode := by cases op <;> rfl
  have args : argsOf op env.spare = block := by
    cases op with
    | load start count | read start count => exact rangeArgs_eq start count env.spare
    | setRowCount bank v => cases bank <;> exact nodeParamArgs_eq _ v env.spare
    | setWindow w v => cases w <;> exact nodeParamArgs_eq _ v env.spare
    | setMargin v | setStandstillTimeout v | setGuardEnable v | setDiagnosticCheckMode v | setDiagnosticCheckValue v =>
      exact nodeParamArgs_eq _ v env.spare
    | setStepsPerNeedle x v | setRampLength x v | setMode x v | setClass x v | setLapSet x v | setTravelLimit x v
    | setTrim x v | setHomePosition x v | setHomePolarity x v | unknownParameter _ x v =>
      exact indexedParamArgs_eq _ x v env.spare
    | arm v | jog _ v =>
      rw [argsOf, hiByte_eq, loByte_eq]
    | _ => rfl
  refine ⟨code, args, fun hop => ⟨decodeOp_argsOf hop env.spare, fun henv s => exec_requestFrame hop henv s⟩,
    fun s ⟨result, value, bad, reason, words⟩ hdata hrep => ?_⟩
  intro dest data slot sent
  have hslot : result.byte = slot := by cases result <;> rfl
  have a2 : (value.map hiByte).getD block.a2 = sent.a2 := by
    cases value with
    | none => rfl
    | some v => exact hiByte_eq v
  have a3 : (value.map loByte).getD block.a3 = sent.a3 := by
    cases value with
    | none => rfl
    | some v => exact loByte_eq v
  have a4 : (bad.map (BitVec.ofNat 8)).getD block.a4 = sent.a4 := by cases bad <;> rfl
  have a5 : (reason.map Reason.byte).getD block.a5 = sent.a5 := by
    cases reason with
    | none => rfl
    | some r => cases r <;> rfl
  have frame : Reply.frame ⟨result, value, bad, reason, words⟩ s.ring.address op env
      = { reply := true, dest := dest, seq := env.seq, op := opCode, args := sent, data := data, slot := slot } := by
    rw [Reply.frame, Reply.args, code, args, hslot, a2, a3, a4, a5]
    rfl
  have clean := judge_serviceFrame (Reply.frame_wf hdata hrep s.ring.address op)
  have chars := cleanReply_chars (Reply.frame ⟨result, value, bad, reason, words⟩ s.ring.address op env) rfl
  rw [frame] at clean chars
  rw [Reply.chars, frame]
  exact ⟨clean, chars⟩

end Sys2Proof.Machine

-- ==== Refused requests (O44) ====
namespace Sys2Proof.Machine

/-! ### A refusal leaves the state (R180) -/

/-- Does an operation's answer leave the state where its result is a refusal (R180)? -/
def refusalKeeps (s : State) (r : State × Reply) : Prop := r.2.result.refuses = true → r.1 = s

theorem refusalKeeps_same (s : State) (rep : Reply) : refusalKeeps s (s, rep) := fun _ => rfl

theorem refusalKeeps_of_refusedBy {s : State} {r : State × Reply} (h : refusedBy s r) : refusalKeeps s r := fun _ => h.1

/-- An answer that is no refusal leaves whatever it leaves. -/
theorem refusalKeeps_of_taken {s : State} {r taken : State × Reply} (h : r = taken)
    (hr : taken.2.result.refuses = false) : refusalKeeps s r := fun refused => by
  rw [h] at refused
  exact absurd (hr.symm.trans refused) nofun

theorem jogReferenced_refuses (s : State) (n : BarIx) (ramp : List Nat) (steps : Int) :
    (jogReferenced s n ramp steps).2.result.refuses = false := by
  simp only [jogReferenced, Reply.only]
  split
  · rfl
  · split <;> rfl

theorem jogUnreferenced_refuses (s : State) (n : BarIx) (ramp : List Nat) (steps : Int) :
    (jogUnreferenced s n ramp steps).2.result.refuses = false := by
  unfold jogUnreferenced
  split <;> rfl

/-- A JOG is refused before it is taken by either kind of bar. -/
theorem opJog_refusalKeeps (bar : Byte) (v : Word) (s : State) : refusalKeeps s (opJog bar v s) := by
  rcases opJog_cases bar v s with e | ⟨n, steps, ramp, -, -, -, -, -, e⟩
  · exact refusalKeeps_of_refusedBy e
  · split at e
    · exact refusalKeeps_of_taken e (jogReferenced_refuses s n ramp steps)
    · exact refusalKeeps_of_taken e (jogUnreferenced_refuses s n ramp steps)

/-- An operation whose answer is a refusal leaves the state, whatever the operation (R180). -/
theorem immediateOp_refusalKeeps (op : ServiceOp) (data : List Word) (s : State) :
    refusalKeeps s (immediateOp op data s) := by
  by_cases hd : takesNoData op = true ∧ data ≠ []
  · rw [immediateOp_withData hd.1 hd.2]
    exact refusalKeeps_same s _
  have none : takesNoData op = true → data = [] := fun hop => by simpa [hop] using hd
  cases op with
  | load a c =>
    exact (opLoad_cases a c data s).elim refusalKeeps_of_refusedBy fun ⟨_, e⟩ => refusalKeeps_of_taken e rfl
  | read a c => exact refusalKeeps_same s _
  | getStatus p b => exact fun _ => opGetStatus_state p b data.length s
  | getFaults => exact fun _ => opGetFaults_state data.length s
  | unknownOp b => exact refusalKeeps_same s _
  | getParam i x =>
    rw [none rfl]
    exact (opGetParam_cases i x s).elim refusalKeeps_of_refusedBy fun ⟨_, _, e⟩ => refusalKeeps_of_taken e rfl
  | setRowCount bank v =>
    rw [none rfl]
    refine (opSetRowCount_cases bank v s).elim refusalKeeps_of_refusedBy fun ⟨_, _, e⟩ => ?_
    cases bank <;> exact refusalKeeps_of_taken e rfl
  | setMargin v =>
    rw [none rfl]
    exact (opSetMargin_cases v s).elim refusalKeeps_of_refusedBy fun ⟨_, _, e⟩ => refusalKeeps_of_taken e rfl
  | setStandstillTimeout v =>
    rw [none rfl]
    exact (opSetStandstillTimeout_cases v s).elim refusalKeeps_of_refusedBy fun ⟨_, _, e⟩ => refusalKeeps_of_taken e rfl
  | setWindow w v =>
    rw [none rfl]
    exact (opSetWindow_cases w v s).elim refusalKeeps_of_refusedBy fun ⟨_, _, _, e⟩ => refusalKeeps_of_taken e rfl
  | setGuardEnable v =>
    rw [none rfl]
    rcases opSetGuardEnable_cases v s with e | ⟨-, e⟩ | ⟨-, -, e⟩
    · exact refusalKeeps_of_refusedBy e
    all_goals exact refusalKeeps_of_taken e rfl
  | setDiagnosticCheckMode v =>
    rw [none rfl]
    rcases opSetDiagMode_cases v s with e | ⟨-, -, e⟩ | ⟨-, e⟩
    · exact refusalKeeps_of_refusedBy e
    all_goals exact refusalKeeps_of_taken e rfl
  | setDiagnosticCheckValue v =>
    rw [none rfl]
    exact (opSetDiagValue_cases v s).elim refusalKeeps_of_refusedBy fun ⟨_, _, e⟩ => refusalKeeps_of_taken e rfl
  | setStepsPerNeedle c v =>
    rw [none rfl]
    exact (opSetSpn_cases c v s).elim refusalKeeps_of_refusedBy fun ⟨_, _, _, _, _, _, e⟩ => refusalKeeps_of_taken e rfl
  | setRampLength c v =>
    rw [none rfl]
    exact (opSetRampLength_cases c v s).elim refusalKeeps_of_refusedBy fun ⟨_, _, _, _, _, e⟩ => refusalKeeps_of_taken e rfl
  | setMode b v =>
    rw [none rfl]
    exact (opSetMode_cases b v s).elim refusalKeeps_of_refusedBy fun ⟨_, _, _, _, _, _, e⟩ => refusalKeeps_of_taken e rfl
  | setClass b v =>
    rw [none rfl]
    exact (opSetClass_cases b v s).elim refusalKeeps_of_refusedBy fun ⟨_, _, _, _, _, _, _, e⟩ => refusalKeeps_of_taken e rfl
  | setLapSet b v =>
    rw [none rfl]
    exact (opSetLapSet_cases b v s).elim refusalKeeps_of_refusedBy fun ⟨_, _, _, _, _, e⟩ => refusalKeeps_of_taken e rfl
  | setTravelLimit b v =>
    rw [none rfl]
    exact (opSetTravelLimit_cases b v s).elim refusalKeeps_of_refusedBy
      fun ⟨_, _, _, _, _, _, _, e⟩ => refusalKeeps_of_taken e rfl
  | setTrim b v =>
    rw [none rfl]
    exact (opSetTrim_cases b v s).elim refusalKeeps_of_refusedBy fun ⟨_, _, _, _, e⟩ => refusalKeeps_of_taken e rfl
  | setHomePosition b v =>
    rw [none rfl]
    exact (opSetHomePosition_cases b v s).elim refusalKeeps_of_refusedBy fun ⟨_, _, _, _, e⟩ => refusalKeeps_of_taken e rfl
  | setHomePolarity b v =>
    rw [none rfl]
    exact (opSetHomePolarity_cases b v s).elim refusalKeeps_of_refusedBy fun ⟨_, _, _, _, e⟩ => refusalKeeps_of_taken e rfl
  | unknownParameter i x v =>
    rw [none rfl]
    exact refusalKeeps_same s _
  | commitClass c =>
    rw [none rfl]
    exact (opCommitClass_cases c s).elim refusalKeeps_of_refusedBy fun ⟨_, _, _, _, _, e⟩ => refusalKeeps_of_taken e rfl
  | arm tag =>
    rw [none rfl]
    exact (opArm_cases tag s).elim refusalKeeps_of_refusedBy fun ⟨_, _, _, _, e⟩ => refusalKeeps_of_taken e rfl
  | disarm =>
    rw [none rfl]
    exact refusalKeeps_of_taken (immediateOp_disarm s) rfl
  | resume =>
    rw [none rfl]
    exact (opResume_cases s).elim refusalKeeps_of_refusedBy fun ⟨_, _, _, e⟩ => refusalKeeps_of_taken e rfl
  | restart =>
    rw [none rfl]
    exact (opRestart_cases s).elim refusalKeeps_of_refusedBy fun ⟨_, _, e⟩ => refusalKeeps_of_taken e rfl
  | jog b v =>
    rw [none rfl]
    exact opJog_refusalKeeps b v s
  | reference b =>
    rw [none rfl]
    exact (opReference_cases b s).elim refusalKeeps_of_refusedBy fun ⟨_, _, _, _, _, e⟩ => refusalKeeps_of_taken e rfl
  | clearFault t b =>
    rw [none rfl]
    rcases opClearFault_cases t b s with e | ⟨-, e⟩ | ⟨_, -, -, e⟩ | ⟨-, e⟩ | ⟨-, e⟩
    · exact refusalKeeps_of_refusedBy e
    all_goals exact refusalKeeps_of_taken e rfl

theorem Result.refuses_of {r : Result}
    (h : r = .state ∨ r = .range ∨ r = .busy ∨ r = .notReady ∨ r = .unknownOp) : r.refuses = true := by
  rcases h with rfl | rfl | rfl | rfl | rfl <;> rfl

/-! ### The data count (R180) -/

/-- The operations whose data count need not be 0 are LOAD, READ, GET_STATUS, GET_FAULTS and those that are none. -/
theorem takesNoData_of {op : ServiceOp} (load : ∀ a n, op ≠ .load a n) (read : ∀ a n, op ≠ .read a n)
    (status : ∀ p b, op ≠ .getStatus p b) (faults : op ≠ .getFaults) (unknown : ∀ b, op ≠ .unknownOp b) :
    takesNoData op = true := by
  cases op with
  | load a n => exact absurd rfl (load a n)
  | read a n => exact absurd rfl (read a n)
  | getStatus p b => exact absurd rfl (status p b)
  | getFaults => exact absurd rfl faults
  | unknownOp b => exact absurd rfl (unknown b)
  | _ => rfl

/-- What names no parameter is answered RANGE, with data words and without (R181). -/
theorem immediateOp_unknownParameter_range (identity index : Byte) (v : Word) (data : List Word) (s : State) :
    immediateOp (.unknownParameter identity index v) data s = (s, .only .range) := by
  cases data with
  | nil => exact immediateOp_unknownParameter identity index v s
  | cons d rest => exact immediateOp_withData rfl (List.cons_ne_nil d rest) s

/-! ### The obligation -/

/-- Settles O44: a refused request leaves the state its operation was asked in, which differs from the one before by the
frame that entered and the home inputs sampled. -/
theorem refusalsChangeNothing : Obligations.RefusalsChangeNothing := by
  refine ⟨fun c op env s hc h hread => ?_, fun s env op h => ?_, fun s env identity index v h => ?_,
    fun c op env s hc h hdata hload hread hstatus hfaults hunknown => ?_⟩
  · intro r refused
    exact exec_answered_as hc h hread (Prod.ext (immediateOp_refusalKeeps _ _ _ (Result.refuses_of refused)) rfl)
  · exact exec_answered_same (.unknownOp env op) (.unknownOp op) rfl h rfl nofun _ (immediateOp_unknownOp _ _ _)
  · exact exec_answered_same (.unknownParameter env identity index v) _ rfl h rfl nofun _
      (immediateOp_unknownParameter_range _ _ _ _ _)
  · exact exec_answered_as hc h hread (immediateOp_withData (takesNoData_of hload hread hstatus hfaults hunknown) hdata _)

end Sys2Proof.Machine

-- ==== The step on a queue that holds a command (O1) ====
namespace Sys2Proof.Machine

/-- The queue alone selects the branch of `step`: where a command stands at its front, that command runs on the state that
has lost it from the queue, and no time passes. -/
theorem step_of_pending_eq_cons {s : State} {c : Instr} {rest : List Instr} (queue : s.pending = c :: rest) :
    step s = exec c { s with pending := rest } := by
  rw [step, queue]

/-- Settles O1: the queue written into the state is the queue that `step` reads, and the state that the command runs in
forgets it again for the rest. -/
theorem stepRunsFront : Obligations.StepRunsFront := by
  intro c s rest
  have front : ({ s with pending := c :: rest } : State).pending = c :: rest := rfl
  exact step_of_pending_eq_cons front

end Sys2Proof.Machine
